-- ==== Sys2Proof/Word.lean ====
section
/-! DEFINITION. The word types of the core (R6, R8): bytes, 32-bit words, 64-bit counts. All are unsigned. -/

namespace Sys2Proof

/-- `u8` (R8). -/
abbrev Byte := BitVec 8

/-- `u32` (R8): the word of the datapath and of the register window. -/
abbrev Word := BitVec 32

/-- `u64` (R8): the byte count TOTAL and the bit length of the padder. -/
abbrev DWord := BitVec 64

end Sys2Proof
end

