-- ==== Sys2Proof/Syntax.lean ====
section
/-! DEFINITION. The commands of the core: one constructor per row of the opcode table (R74). -/

namespace Sys2Proof

/-- A command, as it is decoded from a word written to CMD (R74, R77). -/
inductive Instr where
  /-- INIT: start a hash computation (R173). -/
  | init
  /-- BLOCK: absorb the 64-byte block held in BLK (R174). -/
  | block
  /-- FINAL N: absorb the last `n` message bytes, pad, and produce the digest (R175). -/
  | final (n : Nat)
  deriving DecidableEq, Repr

end Sys2Proof
end

