-- ==== Sys2Proof/WellFormed.lean ====
section
/-! DEFINITION. Which commands have an encoding: the tail count of FINAL fits its six-bit field (R72). -/

namespace Sys2Proof

/-- R72: every value 0..63 is a legal FINAL operand, and no other is; INIT and BLOCK take none (R75). -/
def Instr.wf : Instr → Bool
  | .init => true
  | .block => true
  | .final n => decide (n ≤ 63)

end Sys2Proof
end

