-- ==== Sys2Proof/Decode.lean ====
section
/-! DEFINITION. Decoding of command words, total on 32-bit words and rejecting by name (R70 to R78), and the encoder
written from the same table (R74, R80). -/

namespace Sys2Proof

/-- OP = word[7:0] (R71). -/
def opField (w : Word) : BitVec 8 := w.extractLsb' 0 8

/-- N = word[13:8] (R72). -/
def nField (w : Word) : BitVec 6 := w.extractLsb' 8 6

/-- RSV = word[31:14] (R73). -/
def rsvField (w : Word) : BitVec 18 := w.extractLsb' 14 18

/-- Why a word is illegal (R76). The core reports all three alike, as ILLEGAL (R203; log entry 13). -/
inductive IllegalWord where
  /-- A bit of RSV is set (R73). -/
  | reservedSet
  /-- INIT or BLOCK with N ≠ 0 (R75). -/
  | operandSet
  /-- OP is 0x00 or 0x04 to 0xFF (R76). -/
  | unknownOp
  deriving DecidableEq, Repr

/-- The command a word spells, or the reason it is illegal (R77), read from the fields of format C (R70). -/
def decode (w : Word) : Except IllegalWord Instr :=
  if rsvField w ≠ 0 then .error .reservedSet
  else if opField w = 0x01 then (if nField w = 0 then .ok .init else .error .operandSet)
  else if opField w = 0x02 then (if nField w = 0 then .ok .block else .error .operandSet)
  else if opField w = 0x03 then .ok (.final (nField w).toNat)
  else .error .unknownOp

/-- The word of a well-formed command (R74, R80): `FINAL n` is `(n << 8) or 0x00000003`. (An n above
63: log entry 22.) -/
def encode : Instr → Word
  | .init => 0x00000001
  | .block => 0x00000002
  | .final n => (BitVec.ofNat 32 n <<< 8) ||| 0x00000003

/-- The `mask` column of the opcode map (R74). -/
def Instr.maskBits : Instr → Word
  | .init => 0xFFFFFFFF
  | .block => 0xFFFFFFFF
  | .final _ => 0xFFFFC0FF

/-- The `match` column of the opcode map (R74). -/
def Instr.matchBits : Instr → Word
  | .init => 0x00000001
  | .block => 0x00000002
  | .final _ => 0x00000003

/-- The command the decoder reads from an opcode-table word of `nbits` bits. Every command is one 32-bit word (R70), so
bits above `nbits` are zero and a longer word is no command. -/
def decodeTableWord (nbits w : Nat) : Option Instr :=
  if nbits ≤ 32 then (decode (BitVec.ofNat 32 (w % 2 ^ nbits))).toOption else none

end Sys2Proof
end

