-- ==== Sys2Proof/Machine/Bytes.lean ====
section
/-! DEFINITION. Byte order: big-endian packing and unpacking (R10, R59), and cutting a byte sequence into blocks. -/

namespace Sys2Proof.Machine

/-- `be32(b0, b1, b2, b3)`: four bytes, most significant first (R10). -/
def be32 (b0 b1 b2 b3 : Byte) : Word := b0 ++ b1 ++ b2 ++ b3

/-- `be32bytes(x)` (R10). -/
def be32bytes (x : Word) : List Byte :=
  [x.extractLsb' 24 8, x.extractLsb' 16 8, x.extractLsb' 8 8, x.extractLsb' 0 8]

/-- `be64bytes(v)` (R10). -/
def be64bytes (v : DWord) : List Byte := be32bytes (v.extractLsb' 32 32) ++ be32bytes (v.extractLsb' 0 32)

/-- `zero_bytes(n)` (R10). -/
def zeroBytes (n : Nat) : List Byte := List.replicate n 0

/-- The word of bytes 4j..4j+3 of `bs`, big-endian (R58, R131); bytes past the end count as 0x00, as LOADTAIL writes
them (R80). -/
def packWord (bs : List Byte) (j : Nat) : Word :=
  be32 (bs.getD (4 * j) 0) (bs.getD (4 * j + 1) 0) (bs.getD (4 * j + 2) 0) (bs.getD (4 * j + 3) 0)

/-- The first `q` consecutive 64-byte blocks of `bs`, in order (R145; past the end of `bs`: log entry 22). -/
def blocksOf : Nat → List Byte → List (List Byte)
  | 0, _ => []
  | q + 1, bs => bs.take 64 :: blocksOf q (bs.drop 64)

end Sys2Proof.Machine
end

