-- ==== Sys2Proof/Machine/Padder.lean ====
section
/-! DEFINITION. The padder (R100 to R107). Its domain is L ≤ 2^61 - 1 (R100, R107). DESIGN CHOICE: the functions are total
and give a value past it too, where the spec leaves the result unspecified (log entry 21); no command reaches it. -/

namespace Sys2Proof.Machine

/-- `pad_len` of a message of `L` bytes (R102). The outer `mod` is the non-negative remainder (90_conflicts.md C5). -/
def padLen (L : Nat) : Nat :=
  let p := ((56 - (L % 64 : Nat) : Int) % 64).toNat
  if p = 0 then 64 else p

/-- `bit_length` of a message of `L` bytes, a 64-bit unsigned quantity (R101). It is exact for
L ≤ 2^61 - 1; past that, outside the domain of R107, the model cuts it to 64 bits (log entry 21). -/
def bitLength (L : Nat) : DWord := BitVec.ofNat 64 (8 * L)

/-- `padtail(tail, L)`: the last bytes of a message of `L` bytes, padded (R106; past the domain, log entry 21). -/
def padTail (tail : List Byte) (L : Nat) : List Byte :=
  tail ++ [0x80] ++ zeroBytes (padLen L - 1) ++ be64bytes (bitLength L)

/-- `pad(message)` (R103; past the domain, log entry 21). -/
def pad (m : List Byte) : List Byte :=
  m ++ [0x80] ++ zeroBytes (padLen m.length - 1) ++ be64bytes (bitLength m.length)

/-- `nblocks(L)`: how many blocks the padded buffer holds (R105). -/
def nblocks (L : Nat) : Nat := (L + 8) / 64 + 1

end Sys2Proof.Machine
end

