-- ==== Sys2Proof/Machine/Mixer.lean ====
section
/-! DEFINITION. The 32-bit word mixer (R110 to R121): combinational functions of their operands alone. -/

namespace Sys2Proof.Machine

/-- `rotr(x, n)`, defined only for 0 < n < 32 (R111): no other rotation can be written down. -/
def rotr (x : Word) (n : Nat) (_h : 0 < n ∧ n < 32 := by decide) : Word := (x >>> n) ||| (x <<< (32 - n))

/-- `x >> n`, the logical right shift (R112). -/
def shr (x : Word) (n : Nat) : Word := x >>> n

/-- The n-ary adder modulo 2^32 (R114). -/
def addAll (xs : List Word) : Word := xs.foldl (· + ·) 0

/-- The choose function (R115). -/
def Ch (e f g : Word) : Word := (e &&& f) ^^^ (~~~e &&& g)

/-- The majority function (R116). -/
def Maj (a b c : Word) : Word := (a &&& b) ^^^ (a &&& c) ^^^ (b &&& c)

/-- Σ0, the source's `S0` (R117). -/
def bigSigma0 (a : Word) : Word := rotr a 2 ^^^ rotr a 13 ^^^ rotr a 22

/-- Σ1, the source's `S1` (R118). -/
def bigSigma1 (e : Word) : Word := rotr e 6 ^^^ rotr e 11 ^^^ rotr e 25

/-- σ0 of the schedule (R119): its third term is a shift. -/
def smallSigma0 (x : Word) : Word := rotr x 7 ^^^ rotr x 18 ^^^ shr x 3

/-- σ1 of the schedule (R120): its third term is a shift. -/
def smallSigma1 (x : Word) : Word := rotr x 17 ^^^ rotr x 19 ^^^ shr x 10

end Sys2Proof.Machine
end

