-- ==== Sys2Proof/Machine/Schedule.lean ====
section
/-! DEFINITION. The message schedule expander (R130 to R134). -/

namespace Sys2Proof.Machine

/-- W[i-16] + σ0(W[i-15]) + W[i-7] + σ1(W[i-2]) for i = k + 16 (R132). -/
def scheduleWord (w : Vector Word 64) (k : Nat) : Word :=
  w.getD k 0 + smallSigma0 (w.getD (k + 1) 0) + w.getD (k + 9) 0 + smallSigma1 (w.getD (k + 14) 0)

/-- The schedule of a block with its first `k` derived words, W[16] to W[16+k-1], in place: W[0..15] are the block's
words (R131), and each derived word is computed in ascending order from words already there (R132). -/
def scheduleUpTo (block : List Byte) : Nat → Vector Word 64
  | 0 => Vector.ofFn fun j => if j.val < 16 then packWord block j else 0
  | k + 1 =>
    let w := scheduleUpTo block k
    w.setIfInBounds (16 + k) (scheduleWord w k)

/-- `schedule(block)`: W[0..63], of the block alone (R130, R133). DESIGN CHOICE: R130 gives it for exactly 64 bytes; in
a shorter block the missing bytes count as 0x00 here, and of a longer one the first 64 are read (log entry 22). -/
@[irreducible] def schedule (block : List Byte) : Vector Word 64 := scheduleUpTo block 48

end Sys2Proof.Machine
end

