-- ==== Sys2Proof/Config.lean ====
section
/-! DEFINITION. The free value of the model: the spec's `draw u32` (R10, 93_implementation_defined.md §1). -/

namespace Sys2Proof

/-- The `n`-th `draw u32` of a run (R10): any word at all. It has no body, so no proof can learn a value of it, and
every statement about a draw holds for every value. `State.drawCount` says which draw comes next, so that each read of a
draw-valued register takes a draw of its own (R57, R26). (Log entry 5.) -/
opaque Config.drawWord : Nat → Word

end Sys2Proof
end

