-- ==== Sys2Proof/Machine/State.lean ====
section
/-! DEFINITION. The state of the machine as plain data: the core (R39), its reset input, the host that drives it (R20,
R79) and the order in which the agents move (R62). -/

namespace Sys2Proof.Machine

/-- The working variables a..h of the compressor (R23). -/
structure WorkVars where
  (a b c d e f g h : Word)
  deriving DecidableEq, Repr

/-- The errors that can be recorded (R202); the code is `ErrKind.code`. -/
inductive ErrKind where
  /-- A word that decodes to ILLEGAL was written to CMD (R203). -/
  | illegal
  /-- CMD or BLK was written while BUSY = 1 (R204). -/
  | busy
  /-- BLOCK or FINAL with ACTIVE = 0 (R205). -/
  | seq
  /-- The message would be longer than 2^61 - 1 bytes (R206). -/
  | len
  deriving DecidableEq, Repr

/-- The width of a host access. Only a whole word is inside the interface (R52, R53). -/
inductive AccessWidth where
  | byte
  | half
  | word
  deriving DecidableEq, Repr

/-- What the host puts on the bus: a byte offset from CORE_BASE (R51), a width, and whether it is one beat of a burst. -/
structure BusAccess where
  off : Nat
  width : AccessWidth := .word
  burst : Bool := false
  deriving DecidableEq, Repr

/-- A host statement (R79), with labels resolved to places in the program and registers to offsets. -/
inductive HostStmt where
  /-- `WR reg, imm32`: one BusWrite. -/
  | wr (a : BusAccess) (v : Word)
  /-- `RD rK, reg`: one BusRead. -/
  | rd (k : Fin 16) (a : BusAccess)
  /-- `BNZ rK, mask, label`: host control flow only. -/
  | bnz (k : Fin 16) (mask : Word) (target : Nat)
  /-- `HALT`: the end of the host program (R184). -/
  | halt
  deriving DecidableEq, Repr

/-- One turn of the interleaving of R62: a host statement, a completion step of the engine, or a change of the reset
input `rst` (R230). -/
inductive Move where
  | host
  | engine
  | rst (level : Bool)
  deriving DecidableEq, Repr

/-- What stops the machine with a fault: nothing. "There are no `fault` or `stuck` entries: the core never traps and
never hangs" (93_implementation_defined.md §1; R200, R210; log entry 16). -/
inductive Fault
  deriving DecidableEq, Repr

/-- What the model gives no meaning. -/
inductive Refusal where
  /-- Raised by an arm of `exec` without a meaning; no arm is left so. Safe: the machine stops. -/
  | notModelled (mnemonic : String)
  /-- Raised by a host access narrower than 32 bits (R53). Safe: the run stops. -/
  | subWordAccess
  /-- Raised by a host access whose offset is not a multiple of 4 (R53). Safe: the run stops. -/
  | misalignedAccess
  /-- Raised by a burst (R53). Safe: the run stops. -/
  | burstAccess
  /-- Raised by an access outside 0x000-0x0FF, which the platform decodes, not the core (R51). Safe: the run stops. -/
  | outsideWindow
  deriving DecidableEq, Repr

/-- The whole state. The core's fields are those of R39 and the datapath registers of R21, R23 and R24. -/
@[ext]
structure State where
  /-- Hash accumulators H[0..7] (R22). -/
  h : Vector Word 8
  /-- H has been written since reset (R38). -/
  hw : Bool
  /-- Working variables a..h (R23; log entry 7). -/
  wv : WorkVars
  /-- Message schedule W[0..63] (R24; log entry 7). -/
  w : Vector Word 64
  /-- Block buffer BLK[0..15] (R26). -/
  blk : Vector Word 16
  /-- BLK[j] has been written since reset (R38). -/
  blkw : Vector Bool 16
  /-- Hex digest registers HEX[0..15] (R27). -/
  hex : Vector Word 16
  /-- STATUS.BUSY (R31). -/
  busy : Bool
  /-- STATUS.ACTIVE (R32). -/
  active : Bool
  /-- STATUS.DONE (R33). -/
  done : Bool
  /-- STATUS.ERR (R34). -/
  err : Bool
  /-- STATUS.ERRCODE (R35). -/
  errcode : BitVec 4
  /-- TOTAL, the message bytes absorbed (R36; log entry 20). -/
  total : DWord
  /-- The pending command latch PEND (R37): the phase is IDLE when it is empty (R28). -/
  pend : Option Instr
  /-- The level of the reset input `rst` (R230). -/
  rst : Bool
  /-- The host's program (R79). -/
  prog : List HostStmt
  /-- The place of the host's next statement in `prog`. -/
  hpc : Nat
  /-- The host's variables r0..r15 (R79). -/
  vars : Vector Word 16
  /-- Which agent moves next, as far as it is laid down; see `step` for what follows (R62, R240). -/
  schedule : List Move
  /-- The model's own counter: how many draws have been taken (log entry 5). -/
  drawCount : Nat
  deriving DecidableEq, Repr

/-- The machine right after reset (R230, 10_state.md §8): STATUS = 0, TOTAL = 0, PEND empty, nothing written. The values
of H, BLK, HEX, W and a..h are unspecified there and zero here (log entry 6): no read returns them. The host has no
program yet (log entry 9). -/
def State.reset : State where
  h := Vector.replicate 8 0
  hw := false
  wv := ⟨0, 0, 0, 0, 0, 0, 0, 0⟩
  w := Vector.replicate 64 0
  blk := Vector.replicate 16 0
  blkw := Vector.replicate 16 false
  hex := Vector.replicate 16 0
  busy := false
  active := false
  done := false
  err := false
  errcode := 0
  total := 0
  pend := none
  rst := false
  prog := []
  hpc := 0
  vars := Vector.replicate 16 0
  schedule := []
  drawCount := 0

end Sys2Proof.Machine
end

