-- ==== Sys2Proof/Machine/Compressor.lean ====
section
/-! DEFINITION. The compressor (R143 to R148): the round, the 64 rounds, one block, and a whole padded buffer. -/

namespace Sys2Proof.Machine

/-- T1 of round `t` (R143). -/
def roundT1 (t : Nat) (v : WorkVars) (wt : Word) : Word :=
  addAll [v.h, bigSigma1 v.e, Ch v.e v.f v.g, K.getD t 0, wt]

/-- T2 of a round (R143). -/
def roundT2 (v : WorkVars) : Word := bigSigma0 v.a + Maj v.a v.b v.c

/-- `round(t, (a,...,h), W[t])`: the eight variables are written together (R143, R11; t of 64
or more: log entry 22). -/
def shaRound (t : Nat) (v : WorkVars) (wt : Word) : WorkVars where
  a := roundT1 t v wt + roundT2 v
  b := v.a
  c := v.b
  d := v.c
  e := v.d + roundT1 t v wt
  f := v.e
  g := v.f
  h := v.g

/-- Rounds 0 to n-1 in ascending order, from the variables `v` (R144, R146). -/
def rounds (w : Vector Word 64) (v : WorkVars) : Nat → WorkVars
  | 0 => v
  | t + 1 => shaRound t (rounds w v t) (w.getD t 0)

/-- The 64 rounds of a block (R144). -/
@[irreducible] def allRounds (w : Vector Word 64) (v : WorkVars) : WorkVars := rounds w v 64

/-- "Seed working variables a..h from current H[0..7]" (R144). -/
def seedVars (h : Vector Word 8) : WorkVars := ⟨h[0], h[1], h[2], h[3], h[4], h[5], h[6], h[7]⟩

/-- "Add the final a..h back into H[0..7] element-wise, mod 2^32" (R144). -/
def addBack (h : Vector Word 8) (v : WorkVars) : Vector Word 8 :=
  #v[h[0] + v.a, h[1] + v.b, h[2] + v.c, h[3] + v.d, h[4] + v.e, h[5] + v.f, h[6] + v.g, h[7] + v.h]

/-- `compress_block(H, block)` (R144; a block of other than 64 bytes: log entry 22). -/
def compressBlock (h : Vector Word 8) (block : List Byte) : Vector Word 8 :=
  addBack h (allRounds (schedule block) (seedVars h))

/-- `compress(padded)`: the blocks in order, from a copy of H0 (R145, R147). DESIGN CHOICE: R145 gives it for lengths
that are multiples of 64 only; of another length, which no command forms, the last 1 to 63 bytes are left out here (log
entry 22). -/
def compress (padded : List Byte) : Vector Word 8 :=
  (blocksOf (padded.length / 64) padded).foldl compressBlock H0

end Sys2Proof.Machine
end

