-- ==== Sys2Proof/Machine/Encoder.lean ====
section
/-! DEFINITION. The output encoder (R160 to R166). -/

namespace Sys2Proof.Machine

/-- `finalize(H)`: each H[i] as four bytes big-endian, in index order (R160). -/
def finalize (h : Vector Word 8) : List Byte := h.toList.flatMap be32bytes

/-- `hexdig(v)`: lowercase (R162). -/
def hexdig (v : BitVec 4) : Char :=
  ['0', '1', '2', '3', '4', '5', '6', '7', '8', '9', 'a', 'b', 'c', 'd', 'e', 'f'].getD v.toNat '0'

/-- `to_hex(bytes)`: two digits a byte, the high nibble's first (R161). -/
def toHex (bs : List Byte) : List Char :=
  bs.flatMap fun b => [hexdig (b.extractLsb' 4 4), hexdig (b.extractLsb' 0 4)]

/-- `sha256_hex(message)` of the bytes of a message (R163; past the padder's domain, log entry 21). -/
def sha256Hex (m : List Byte) : List Char := toHex (finalize (compress (pad m)))

/-- The ASCII code of a hex digit (R162). -/
def charCode (c : Char) : Byte := BitVec.ofNat 8 c.toNat

/-- What FINAL writes into HEX[0..15]: the 64 characters of `to_hex(finalize(H))`, four a word, first character most
significant (R165). -/
def hexWords (h : Vector Word 8) : Vector Word 16 :=
  let c := (toHex (finalize h)).map charCode
  Vector.ofFn fun j => packWord c j

/-- The characters a host obtains by reading HEX[0..15] and unpacking each word big-endian (R165). -/
def hexChars (x : Vector Word 16) : List Char := (x.toList.flatMap be32bytes).map fun b => Char.ofNat b.toNat

end Sys2Proof.Machine
end

