-- ==== Sys2Proof/Machine/Ops.lean ====
section
/-! DEFINITION. The named operations over the state: recording and clearing an error, the command latch, the engine's
datapath, the registers of the window, the reset event, and the host's own registers. -/

namespace Sys2Proof.Machine

/-- One outcome of this machine. -/
abbrev Outcome := Host.Outcome State Fault Refusal

/-- `o`, and then `f` from its next state. -/
def andThen (o : Outcome) (f : State → Outcome) : Outcome :=
  match o with
  | .next s => f s
  | .fault r => .fault r
  | .refused r => .refused r

/-! ## Errors: what the core has in place of exceptions (R200) -/

/-- STATUS.ERRCODE of an error (R202). -/
def ErrKind.code : ErrKind → BitVec 4
  | .illegal => 1
  | .busy => 2
  | .seq => 3
  | .len => 4

/-- `raise Err(code)`: the first error wins (R201). The core has no trap, so this is all that taking an error does
(R200). -/
def raiseErr (k : ErrKind) (s : State) : State :=
  if s.err then s else { s with err := true, errcode := k.code }

/-- Clearing ERR and ERRCODE, the analogue of return from trap: done by the acceptance of INIT (R209). -/
def clearErr (s : State) : State := { s with err := false, errcode := 0 }

/-! ## The command latch (R37) and the life of a computation -/

/-- PEND <- c; BUSY <- 1 (R171). -/
def latch (i : Instr) (s : State) : State := { s with pend := some i, busy := true }

/-- PEND <- none; BUSY <- 0 (R172). -/
def finish (s : State) : State := { s with pend := none, busy := false }

/-- ACTIVE <- 1; DONE <- 0; TOTAL <- 0: the acceptance effects of INIT beside clearing the error (R171, R173). -/
def openComputation (s : State) : State := { s with active := true, done := false, total := 0 }

/-- H[i] <- H0[i]; Hw <- true (R173). -/
def loadH0 (s : State) : State := { s with h := H0, hw := true }

/-- TOTAL <- L (R174, R175). -/
def setTotal (L : Nat) (s : State) : State := { s with total := BitVec.ofNat 64 L }

/-- HEX <- the packed hex of H; DONE <- 1; ACTIVE <- 0 (R175). -/
def publish (s : State) : State := { s with hex := hexWords s.h, done := true, active := false }

/-- `n` draws have been taken (log entry 5). -/
def useDraws (n : Nat) (s : State) : State := { s with drawCount := s.drawCount + n }

/-! ## The engine's datapath: one block (R144), through the registers W (R24) and a..h (R23) -/

/-- Write the accumulators. -/
def setH (v : Vector Word 8) (s : State) : State := { s with h := v }

/-- Write the message schedule. -/
def setW (v : Vector Word 64) (s : State) : State := { s with w := v }

/-- Write the working variables. -/
def setWv (v : WorkVars) (s : State) : State := { s with wv := v }

/-- W <- schedule(block) (R144). -/
def expandInto (block : List Byte) (s : State) : State := setW (schedule block) s

/-- (a,...,h) <- H[0..7] (R144). -/
def seed (s : State) : State := setWv (seedVars s.h) s

/-- The 64 rounds (R144, R146). -/
def runRounds (s : State) : State := setWv (allRounds s.w s.wv) s

/-- H <- H + (a,...,h) (R144). -/
def addBackH (s : State) : State := setH (addBack s.h s.wv) s

/-- The engine compresses one block (R144). -/
def engineCompress (s : State) (block : List Byte) : State := addBackH (runRounds (seed (expandInto block s)))

/-! ## The register window (R50 to R57) -/

/-- The registers of the window (R54); a reserved slot is named by its offset (R55). -/
inductive Reg where
  | cmd
  | status
  | totalLo
  | totalHi
  | blk (j : Fin 16)
  | h (i : Fin 8)
  | hex (j : Fin 16)
  | reserved (off : Nat)
  deriving DecidableEq, Repr

/-- The `offset` column of the register map (R54). -/
def Reg.offset : Reg → Nat
  | .cmd => 0x000
  | .status => 0x004
  | .totalLo => 0x008
  | .totalHi => 0x00C
  | .blk j => 0x040 + 4 * j.val
  | .h i => 0x080 + 4 * i.val
  | .hex j => 0x0C0 + 4 * j.val
  | .reserved off => off

/-- The register at an aligned offset of the window (R54; elsewhere no access reaches it: log entry 22). -/
def regAt (off : Nat) : Reg :=
  if off = 0x000 then .cmd
  else if off = 0x004 then .status
  else if off = 0x008 then .totalLo
  else if off = 0x00C then .totalHi
  else if 0x040 ≤ off ∧ off ≤ 0x07C then .blk (Fin.ofNat 16 ((off - 0x040) / 4))
  else if 0x080 ≤ off ∧ off ≤ 0x09C then .h (Fin.ofNat 8 ((off - 0x080) / 4))
  else if 0x0C0 ≤ off ∧ off ≤ 0x0FC then .hex (Fin.ofNat 16 ((off - 0x0C0) / 4))
  else .reserved off

/-- Why a host access is outside the interface, if it is (R51, R53; log entry 4). -/
def accessRefusal (a : BusAccess) : Option Refusal :=
  if 0x100 ≤ a.off then some .outsideWindow
  else if a.burst then some .burstAccess
  else if a.width ≠ .word then some .subWordAccess
  else if a.off % 4 ≠ 0 then some .misalignedAccess
  else none

/-- BLK[j] <- v; BLKw[j] <- true (R177). -/
def storeBlk (j : Fin 16) (v : Word) (s : State) : State :=
  { s with blk := s.blk.set j v, blkw := s.blkw.set j true }

/-- `BusWrite(0x040 + 4·j, v)` (R177): dropped with error BUSY in the BUSY window. -/
def blkWrite (j : Fin 16) (v : Word) (s : State) : State :=
  if s.busy then raiseErr .busy s else storeBlk j v s

/-! ## Reset (R230, R231) -/

/-- The reset event: every piece of the core's state takes its reset value, and a pending command is discarded (R230,
R231). The host, the schedule and the model's draw counter are no part of the core. -/
def resetCore (s : State) : State :=
  { State.reset with
    rst := s.rst, prog := s.prog, hpc := s.hpc, vars := s.vars, schedule := s.schedule, drawCount := s.drawCount }

/-- The reset input takes a level; asserting it is the reset event (R230; log entry 3). -/
def setRst (level : Bool) (s : State) : State :=
  if level then { resetCore s with rst := true } else { s with rst := false }

/-! ## The host's own registers (R79) and the order of the agents (R62) -/

/-- The host goes on to the next statement. -/
def nextStmt (s : State) : State := { s with hpc := s.hpc + 1 }

/-- The host goes on at a place of its program (R79). -/
def jumpTo (target : Nat) (s : State) : State := { s with hpc := target }

/-- rK <- v (R79). -/
def setVar (k : Fin 16) (v : Word) (s : State) : State := { s with vars := s.vars.set k v }

/-- One entry of the schedule has been used. -/
def popMove (s : State) : State := { s with schedule := s.schedule.tail }

end Sys2Proof.Machine
end

