-- ==== Sys2Proof/Machine/Operands.lean ====
section
/-! DEFINITION. The operands the engine reads: the words and bytes of BLK (R26, R174 to R176). -/

namespace Sys2Proof.Machine

/-- `Wj = (BLKw[j] ? BLK[j] : draw u32)`, each word read once, with a draw of its own (R174, R175). -/
def blockWord (s : State) (j : Fin 16) : Word :=
  if s.blkw[j] then s.blk[j] else Config.drawWord (s.drawCount + j.val)

/-- W0..W15 (R174). -/
def blockWords (s : State) : List Word := List.ofFn (blockWord s)

/-- The 64 bytes of the block, `be32bytes(W0) ++ ... ++ be32bytes(W15)` (R174, R176). -/
def blockBytes (s : State) : List Byte := (blockWords s).flatMap be32bytes

/-- How many words hold `n` bytes: ceil(n/4) (R175). -/
def wordsFor (n : Nat) : Nat := (n + 3) / 4

/-- The tail of FINAL N: bytes 0..N-1 of the words 0..ceil(N/4)-1, the only words read (R175). -/
def tailBytes (n : Nat) (s : State) : List Byte :=
  (((blockWords s).take (wordsFor n)).flatMap be32bytes).take n

end Sys2Proof.Machine
end

