-- ==== Sys2Proof/Machine/Commands.lean ====
section
/-! DEFINITION. The three commands (R170 to R175). A command has two parts, and the phase of R28 says which one `exec`
runs: its acceptance, from a CMD write in the phase IDLE (R171), or its completion step, by the engine, in the phase RUN
of that command (R172). (Log entry 1.) -/

namespace Sys2Proof.Machine

/-- A command in the phase its latch gives: its completion step when it is the pending command (R172), and otherwise
its submission by a CMD write (R171). A completion empties the latch and clears BUSY. -/
def commandStep (i : Instr) (submit complete : State → State) (s : State) : Outcome :=
  .next (if s.pend = some i then finish (complete s) else submit s)

/-! ## Acceptance (R171), the checks in the order written there (R207) -/

/-- INIT never raises SEQ or LEN (R173). -/
def submitInit (s : State) : State :=
  if s.busy then raiseErr .busy s
  else latch .init (openComputation (clearErr s))

/-- BLOCK: SEQ if ACTIVE = 0, LEN if TOTAL + 64 > MAX_MSG_BYTES (R171, R205, R206). -/
def submitBlock (s : State) : State :=
  if s.busy then raiseErr .busy s
  else if !s.active then raiseErr .seq s
  else if maxMsgBytes < s.total.toNat + 64 then raiseErr .len s
  else latch .block s

/-- FINAL N: SEQ if ACTIVE = 0, LEN if TOTAL + N > MAX_MSG_BYTES (R171, R205, R206). -/
def submitFinal (n : Nat) (s : State) : State :=
  if s.busy then raiseErr .busy s
  else if !s.active then raiseErr .seq s
  else if maxMsgBytes < s.total.toNat + n then raiseErr .len s
  else latch (.final n) s

/-! ## Completion -/

/-- complete(INIT) (R173). -/
def completeInit (s : State) : State := loadH0 s

/-- complete(BLOCK) (R174). -/
def completeBlock (s : State) : State :=
  setTotal (s.total.toNat + 64) (engineCompress (useDraws 16 s) (blockBytes s))

/-- The padding blocks of FINAL N: `P = padtail(tail, L)` cut into blocks (R175). -/
def finalBlocks (n : Nat) (s : State) : List (List Byte) :=
  let P := padTail (tailBytes n s) (s.total.toNat + n)
  blocksOf (P.length / 64) P

/-- complete(FINAL N) (R175). -/
def completeFinal (n : Nat) (s : State) : State :=
  publish (setTotal (s.total.toNat + n) ((finalBlocks n s).foldl engineCompress (useDraws (wordsFor n) s)))

/-! ## The meanings -/

/-- `INIT` (R173). -/
def execInit (s : State) : Outcome := commandStep .init submitInit completeInit s

/-- `BLOCK` (R174). -/
def execBlock (s : State) : Outcome := commandStep .block submitBlock completeBlock s

/-- `FINAL N` (R175). -/
def execFinal (n : Nat) (s : State) : Outcome := commandStep (.final n) (submitFinal n) (completeFinal n) s

end Sys2Proof.Machine
end

