-- ==== Sys2Proof/Machine/Flags.lean ====
section
/-! DEFINITION. The STATUS register (R30, R181) and the values the window's registers give to a host read (R178 to
R183, R55). -/

namespace Sys2Proof.Machine

/-- A flag as bit 0 of a word. -/
def flagBit (b : Bool) : Word := (BitVec.ofBool b).setWidth 32

/-- `BUSY | ACTIVE << 1 | DONE << 2 | ERR << 3 | ERRCODE << 4`, bits 31:8 zero (R181). -/
def statusWord (s : State) : Word :=
  flagBit s.busy ||| (flagBit s.active <<< 1) ||| (flagBit s.done <<< 2) ||| (flagBit s.err <<< 3) |||
    (s.errcode.setWidth 32 <<< 4)

/-- What a BusRead of a register returns where the spec fixes it; `none` is a draw. While `rst` is asserted every read
is a draw (R230). -/
def readExact (r : Reg) (s : State) : Option Word :=
  if s.rst then none
  else
    match r with
    | .cmd => some 0
    | .status => some (statusWord s)
    | .totalLo => if s.busy then none else some (s.total.extractLsb' 0 32)
    | .totalHi => if s.busy then none else some (s.total.extractLsb' 32 32)
    | .blk j => if s.blkw[j] then some s.blk[j] else none
    | .h i => if !s.busy && s.hw then some s.h[i] else none
    | .hex j => if !s.busy && s.done then some s.hex[j] else none
    | .reserved _ => some 0

/-- `BusRead`: the value, and the state after, which differs only in the model's draw counter and only where the value
is a draw (R57; log entry 5). -/
def busRead (r : Reg) (s : State) : Word × State :=
  match readExact r s with
  | some v => (v, s)
  | none => (Config.drawWord s.drawCount, useDraws 1 s)

end Sys2Proof.Machine
end

