-- ==== Sys2Proof/Machine/Bus.lean ====
section
/-! DEFINITION. The moves of the agents: the host's bus writes and statements (R52, R79), the engine's completion step
(R172) and the reset input (R230). -/

namespace Sys2Proof.Machine

/-- `BusWrite(0x000, w)` (R171): BUSY before decoding, then ILLEGAL, then the command's own checks (R207). -/
def cmdWrite (w : Word) (s : State) : Outcome :=
  if s.busy then .next (raiseErr .busy s)
  else
    match decode w with
    | .error _ => .next (raiseErr .illegal s)
    | .ok i => exec i s

/-- `BusWrite` of a register. Writes to read-only and reserved slots have no effect (R55, R56); while `rst` is asserted
no write has (R230). -/
def busWrite (r : Reg) (v : Word) (s : State) : Outcome :=
  if s.rst then .next s
  else
    match r with
    | .cmd => cmdWrite v s
    | .blk j => .next (blkWrite j v s)
    | .status => .next s
    | .totalLo => .next s
    | .totalHi => .next s
    | .h _ => .next s
    | .hex _ => .next s
    | .reserved _ => .next s

/-- The engine's completion step: of the pending command, if there is one (R172, R62). -/
def engineMove (s : State) : Outcome :=
  if s.rst then .next s
  else
    match s.pend with
    | some i => exec i s
    | none => .next s

/-- One host statement (R79). An access outside the interface is refused by name (R53). -/
def runStmt (st : HostStmt) (s : State) : Outcome :=
  match st with
  | .wr a v =>
    match accessRefusal a with
    | some r => .refused r
    | none => busWrite (regAt a.off) v (nextStmt s)
  | .rd k a =>
    match accessRefusal a with
    | some r => .refused r
    | none =>
      let p := busRead (regAt a.off) s
      .next (nextStmt (setVar k p.1 p.2))
  | .bnz k mask target =>
    .next (if s.vars[k] &&& mask ≠ 0 then jumpTo target s else nextStmt s)
  | .halt => .next s

/-- The host's move: the statement at its place in its program. A host with no statement there, or at HALT, does nothing
(R184). -/
def hostMove (s : State) : Outcome :=
  match s.prog[s.hpc]? with
  | some st => runStmt st s
  | none => .next s

/-- The move of one entry of the schedule. -/
def runMove (m : Move) (s : State) : Outcome :=
  match m with
  | .host => hostMove s
  | .engine => engineMove s
  | .rst level => .next (setRst level s)

/-- Who moves: what the schedule says, and when it says nothing more, the engine while a command is pending, so that
every accepted command completes (R240), and the host otherwise. (Log entry 2.) -/
def moveOf (s : State) : Move :=
  match s.schedule with
  | m :: _ => m
  | [] => if s.pend.isSome then .engine else .host

end Sys2Proof.Machine
end

