-- ==== Sys2Proof/Machine/Step.lean ====
section
/-! DEFINITION. One step of the machine: one move of the interleaving of R62. -/

namespace Sys2Proof.Machine

/-- One move of one agent (R62). -/
def step (s : State) : Host.Outcome State Fault Refusal := runMove (moveOf s) (popMove s)

/-- `s` with the host about to write the table word `w` to CMD: the statement at the host's place is that write, it is
the host's turn, and `rst` is released. The core fetches no instructions (R28): a command reaches it by this write alone
(R70). -/
def State.withFetchWord (s : State) (nbits w : Nat) : State :=
  let p := min s.hpc s.prog.length
  let st := HostStmt.wr { off := Reg.cmd.offset } (BitVec.ofNat 32 (w % 2 ^ nbits))
  { s with
    prog := s.prog.take p ++ st :: s.prog.drop (p + 1)
    hpc := p
    schedule := .host :: s.schedule
    rst := false }

end Sys2Proof.Machine
end

