-- ==== Sys2Proof/Machine/HostAsm.lean ====
section
/-! DEFINITION. The host's assembler (R79, R80) and its procedure for one message (R185): a notation for sequences of
bus transactions, not an instruction set of the core. HostText.lean reads the written form. -/

namespace Sys2Proof.Machine

/-- A line of a host program: the statements of R79 and the pseudo-instructions of R80. -/
inductive AsmLine where
  | label (l : List Char)
  | wr (r : Reg) (v : Word)
  | rd (k : Fin 16) (r : Reg)
  | bnz (k : Fin 16) (mask : Word) (l : List Char)
  | halt
  | init
  | block
  | final (n : Nat)
  | wait
  | loadBlk (bs : List Byte)
  | loadTail (bs : List Byte)
  | readH
  deriving DecidableEq, Repr

/-- Which lines the assembler takes: FINAL n with n in 0..63, LOADBLK of 64 bytes, LOADTAIL of at most 63; r15 is
reserved for the expansion of WAIT (R79, R80). -/
def AsmLine.ok : AsmLine → Bool
  | .final n => decide (n ≤ 63)
  | .loadBlk bs => bs.length == 64
  | .loadTail bs => decide (bs.length ≤ 63)
  | .rd k _ => k != 15
  | .bnz k _ _ => k != 15
  | .label _ => true
  | .wr _ _ => true
  | .halt => true
  | .init => true
  | .block => true
  | .wait => true
  | .readH => true

/-- `WR reg, v` (R79). -/
def wrStmt (r : Reg) (v : Word) : HostStmt := .wr { off := r.offset } v

/-- `RD rK, reg` (R79). -/
def rdStmt (k : Fin 16) (r : Reg) : HostStmt := .rd k { off := r.offset }

/-- The writes of LOADBLK and LOADTAIL: BLK[j] for the words that hold `bs`, the last one filled with 0x00 (R80). -/
def loadStmts (bs : List Byte) : List HostStmt :=
  (List.range ((bs.length + 3) / 4)).map fun j => wrStmt (.blk (Fin.ofNat 16 j)) (packWord bs j)

/-- The statements of a line that stands at place `pos`, with the places of the labels (R79, R80); none where the line
names a label the program does not have. `WAIT` branches to its own first statement, its fresh label. -/
def AsmLine.expand (labels : List (List Char × Nat)) (pos : Nat) : AsmLine → Option (List HostStmt)
  | .label _ => some []
  | .wr r v => some [wrStmt r v]
  | .rd k r => some [rdStmt k r]
  | .bnz k mask l => (labels.lookup l).map fun target => [.bnz k mask target]
  | .halt => some [.halt]
  | .init => some [wrStmt .cmd (encode .init)]
  | .block => some [wrStmt .cmd (encode .block)]
  | .final n => some [wrStmt .cmd (encode (.final n))]
  | .wait => some [rdStmt 15 .status, .bnz 15 0x1 pos]
  | .loadBlk bs => some (loadStmts bs)
  | .loadTail bs => some (loadStmts bs)
  | .readH => some (List.ofFn fun i : Fin 8 => rdStmt (Fin.ofNat 16 i.val) (.h i))

/-- How many statements a line becomes. -/
def AsmLine.size : AsmLine → Nat
  | .label _ => 0
  | .wait => 2
  | .loadBlk bs => (bs.length + 3) / 4
  | .loadTail bs => (bs.length + 3) / 4
  | .readH => 8
  | .wr _ _ => 1
  | .rd _ _ => 1
  | .bnz _ _ _ => 1
  | .halt => 1
  | .init => 1
  | .block => 1
  | .final _ => 1

/-- The place of each label of the lines that start at place `pos`. -/
def labelPlaces (pos : Nat) : List AsmLine → List (List Char × Nat)
  | [] => []
  | .label l :: rest => (l, pos) :: labelPlaces pos rest
  | line :: rest => labelPlaces (pos + line.size) rest

/-- The statements of the lines that start at place `pos`. -/
def expandAll (labels : List (List Char × Nat)) (pos : Nat) : List AsmLine → Option (List HostStmt)
  | [] => some []
  | line :: rest =>
    match line.expand labels pos, expandAll labels (pos + line.size) rest with
    | some a, some b => some (a ++ b)
    | _, _ => none

/-- The program of a list of lines; none where a line is not legal, a label is named twice or missing (R79, R80). -/
def assemble (lines : List AsmLine) : Option (List HostStmt) :=
  let labels := labelPlaces 0 lines
  if lines.all AsmLine.ok && decide (labels.map Prod.fst).Nodup then expandAll labels 0 lines else none

/-- The host's procedure for one message (R185), reading STATUS into r8 and then H[0..7] into r0..r7. -/
def procedure (m : List Byte) : List AsmLine :=
  let q := m.length / 64
  [.init, .wait]
    ++ (blocksOf q m).flatMap (fun B => [.loadBlk B, .block, .wait])
    ++ [.loadTail (m.drop (64 * q)), .final (m.length % 64), .wait, .rd 8 .status, .readH, .halt]

/-! ## The same procedure as bus transactions, each command's completion step coming before the next of them -/

/-- The writes of LOADBLK and LOADTAIL: the first `k` words of `bs` into BLK (R80, R177). -/
def loadWords (bs : List Byte) : Nat → State → Outcome
  | 0, s => .next s
  | k + 1, s => andThen (loadWords bs k s) (busWrite (.blk (Fin.ofNat 16 k)) (packWord bs k))

/-- A command's CMD write, and then its completion step, which the host waits for (R170 to R172). -/
def runCommand (i : Instr) (s : State) : Outcome := andThen (busWrite .cmd (encode i) s) engineMove

/-- LOADBLK and BLOCK for each full block of the message (R185). -/
def absorbBlocks : List (List Byte) → State → Outcome
  | [], s => .next s
  | B :: rest, s =>
    andThen (andThen (loadWords B 16 s) (runCommand .block)) (absorbBlocks rest)

/-- INIT; the full blocks; LOADTAIL and FINAL (R185). -/
def hashMessage (m : List Byte) (s : State) : Outcome :=
  let q := m.length / 64
  let tail := m.drop (64 * q)
  andThen (runCommand .init s) fun s1 =>
  andThen (absorbBlocks (blocksOf q m) s1) fun s2 =>
  andThen (loadWords tail ((tail.length + 3) / 4) s2) (runCommand (.final tail.length))

end Sys2Proof.Machine
end

