-- ==== Sys2Proof/Machine/HostText.lean ====
section
/-! DEFINITION. The written form of a host program (R79, R80): lines, `;` comments, `label:`, register names with decimal
indices, `0x` immediates. -/

namespace Sys2Proof.Machine

/-- The characters after `pre`, if the text begins with it. -/
def afterPrefix : List Char → List Char → Option (List Char)
  | [], cs => some cs
  | p :: ps, c :: cs => if p = c then afterPrefix ps cs else none
  | _ :: _, [] => none

/-- The value of a digit in a base up to 16. -/
def digitVal (base : Nat) (c : Char) : Option Nat :=
  let v :=
    if '0' ≤ c ∧ c ≤ '9' then c.toNat - 48
    else if 'a' ≤ c ∧ c ≤ 'f' then c.toNat - 87
    else if 'A' ≤ c ∧ c ≤ 'F' then c.toNat - 55
    else base
  if v < base then some v else none

/-- The digits `cs` after a value `acc`. -/
def digitsFrom (base acc : Nat) : List Char → Option Nat
  | [] => some acc
  | c :: cs => (digitVal base c).bind fun d => digitsFrom base (acc * base + d) cs

/-- A number in a base: at least one digit. -/
def parseNat (base : Nat) (cs : List Char) : Option Nat := if cs = [] then none else digitsFrom base 0 cs

/-- "Immediates are written `0x` followed by hexadecimal digits" (R79); `bound` is the first value too large. -/
def parseHex (bound : Nat) (cs : List Char) : Option Nat :=
  ((afterPrefix ['0', 'x'] cs).bind (parseNat 16)).filter (· < bound)

/-- An immediate of 32 bits. -/
def parseImm (cs : List Char) : Option Word := (parseHex (2 ^ 32) cs).map (BitVec.ofNat 32)

/-- A byte of LOADBLK or LOADTAIL: an immediate, or two hexadecimal digits as 95_test_vectors.md writes it (log entry
17). -/
def parseByte (cs : List Char) : Option Byte :=
  ((parseHex 256 cs) <|> (if cs.length = 2 then parseNat 16 cs else none)).map (BitVec.ofNat 8)

/-- An index below `bound` between `pre` and `post`, in decimal, as in `BLK[3]`. -/
def parseIndex (pre post : List Char) (bound : Nat) (cs : List Char) : Option Nat :=
  (((afterPrefix pre cs).bind fun r => (afterPrefix post.reverse r.reverse).map List.reverse).bind
    (parseNat 10)).filter (· < bound)

/-- A host variable r0..r15 (R79). -/
def parseVar (cs : List Char) : Option (Fin 16) := (parseIndex ['r'] [] 16 cs).map (Fin.ofNat 16)

/-- A register by its name (R54, R79), or a slot by its offset, as 95_test_vectors.md writes a reserved one. -/
def parseReg (cs : List Char) : Option Reg :=
  if cs = ['C', 'M', 'D'] then some .cmd
  else if cs = ['S', 'T', 'A', 'T', 'U', 'S'] then some .status
  else if cs = ['T', 'O', 'T', 'A', 'L', '_', 'L', 'O'] then some .totalLo
  else if cs = ['T', 'O', 'T', 'A', 'L', '_', 'H', 'I'] then some .totalHi
  else
    ((parseIndex ['B', 'L', 'K', '['] [']'] 16 cs).map fun j => Reg.blk (Fin.ofNat 16 j)) <|>
    ((parseIndex ['H', '['] [']'] 8 cs).map fun i => Reg.h (Fin.ofNat 8 i)) <|>
    ((parseIndex ['H', 'E', 'X', '['] [']'] 16 cs).map fun j => Reg.hex (Fin.ofNat 16 j)) <|>
    (((parseHex 0x100 cs).filter (· % 4 = 0)).map regAt)

/-- A statement or pseudo-instruction: its keyword and its operands (R79, R80). -/
def parseStmt (kw : List Char) (args : List (List Char)) : Option AsmLine :=
  if kw = ['L', 'O', 'A', 'D', 'B', 'L', 'K'] then (args.mapM parseByte).map .loadBlk
  else if kw = ['L', 'O', 'A', 'D', 'T', 'A', 'I', 'L'] then (args.mapM parseByte).map .loadTail
  else
    match args with
    | [] =>
      if kw = ['H', 'A', 'L', 'T'] then some .halt
      else if kw = ['I', 'N', 'I', 'T'] then some .init
      else if kw = ['B', 'L', 'O', 'C', 'K'] then some .block
      else if kw = ['W', 'A', 'I', 'T'] then some .wait
      else if kw = ['R', 'E', 'A', 'D', 'H'] then some .readH
      else none
    | [n] => if kw = ['F', 'I', 'N', 'A', 'L'] then (parseNat 10 n).map .final else none
    | [x, y] =>
      if kw = ['W', 'R'] then (parseReg x).bind fun r => (parseImm y).map (.wr r)
      else if kw = ['R', 'D'] then (parseVar x).bind fun k => (parseReg y).map (.rd k)
      else none
    | [x, y, l] =>
      if kw = ['B', 'N', 'Z'] then (parseVar x).bind fun k => (parseImm y).map fun m => .bnz k m l else none
    | _ => none

/-- The words of a line: its comment dropped, cut at blanks and commas. -/
def lineWords (cs : List Char) : List (List Char) :=
  ((cs.takeWhile (· ≠ ';')).splitOnP fun c => c == ' ' || c == '\t' || c == ',').filter (· ≠ [])

/-- The lines of a written line: its label, if it has one, and its statement, if it has one. DESIGN CHOICE, for R79 does not
say (log entry 17): a blank, a tab or a comma stands between a label's colon and a statement on
the same line, and a line has one label at most. -/
def parseLine (cs : List Char) : Option (List AsmLine) :=
  let stmt (ws : List (List Char)) : Option (List AsmLine) :=
    match ws with
    | [] => some []
    | kw :: args => (parseStmt kw args).map ([·])
  match lineWords cs with
  | [] => some []
  | w :: ws =>
    if w.getLast? = some ':' then (stmt ws).map (.label w.dropLast :: ·) else stmt (w :: ws)

/-- A host program as it is written (R79), assembled. -/
def assembleText (cs : List Char) : Option (List HostStmt) :=
  (((cs.splitOnP (· == '\n')).mapM parseLine).map List.flatten).bind assemble

end Sys2Proof.Machine
end

