-- ==== Sys2Proof/Safety.lean ====
section
/-! DEFINITION. What the reachable states of the core satisfy, and what counts as a run whose digest may be used. -/

namespace Sys2Proof.Machine

/-- The core is quiescent: PEND is empty (R184). -/
def State.quiescent (s : State) : Bool := s.pend.isNone

/-- The digest may be read: BUSY = 0, DONE = 1 and ERR = 0 (R184). -/
def State.digestUsable (s : State) : Bool := !s.busy && s.done && !s.err

/-- The host is at the end of its program (R184). -/
def State.hostEnded (s : State) : Bool := s.prog[s.hpc]? == some .halt || s.prog[s.hpc]? == none

/-- `k` steps, up to the first stop. -/
def runSteps : Nat → State → Outcome
  | 0, s => .next s
  | k + 1, s => andThen (step s) (runSteps k)

/-- A pending command was accepted for good reason (R171): it has an encoding (R72), the computation is open, and BLOCK
and FINAL have an initialised H and room below the length limit. -/
def pendOk (s : State) : Instr → Prop
  | .init => s.active = true ∧ s.total = 0
  | .block => s.active = true ∧ s.hw = true ∧ s.total.toNat + 64 ≤ maxMsgBytes
  | .final n => n ≤ 63 ∧ s.active = true ∧ s.hw = true

/-- The invariant of the core: what R31 to R37 and R230 say of its state at every time. -/
structure State.Inv (s : State) : Prop where
  /-- BUSY is 1 exactly while a command is pending (R31, R37). -/
  busy_pend : s.busy = s.pend.isSome
  /-- The pending command was accepted under the checks of R171. -/
  pend_ok : ∀ i, s.pend = some i → pendOk s i
  /-- An open computation whose commands have completed has H written (R174). -/
  active_hw : s.active = true → s.pend = none → s.hw = true
  /-- While a computation is open TOTAL is a multiple of 64 not above 2^61 - 64 (R175). -/
  active_total : s.active = true → s.total.toNat % 64 = 0 ∧ s.total.toNat ≤ 2 ^ 61 - 64
  /-- TOTAL never exceeds MAX_MSG_BYTES (R36). -/
  total_le : s.total.toNat ≤ maxMsgBytes
  /-- DONE means that no computation is open and none is pending (R32, R33). -/
  done_idle : s.done = true → s.active = false ∧ s.pend = none
  /-- While DONE = 1, H and HEX hold the digest of the finalized message (R33, R166). -/
  done_hex : s.done = true → s.hw = true ∧ s.hex = hexWords s.h
  /-- ERRCODE is 0 while ERR = 0 (R35). -/
  err_clear : s.err = false → s.errcode = 0
  /-- ERRCODE is 1 to 4 while ERR = 1 (R35, R202). -/
  err_set : s.err = true → 1 ≤ s.errcode.toNat ∧ s.errcode.toNat ≤ 4
  /-- While `rst` is asserted the core is in its reset state (R230). -/
  rst_idle : s.rst = true → s.pend = none ∧ s.active = false ∧ s.done = false ∧ s.err = false ∧ s.total = 0 ∧
    s.hw = false ∧ s.blkw = Vector.replicate 16 false

end Sys2Proof.Machine
end

