-- ==== Sys2Proof/Certificates/Slice0/Obligations.lean ====
section
/-! DEFINITION. The statements for the provers. -/

open Sys2Proof Sys2Proof.Machine

/-! ## Encoding (30_encoding.md) -/

/-- Decoding the word of a well-formed command gives the command back (R72, R74, R80). -/
def Obligations.DecodeOfEncode : Prop := ∀ i : Instr, i.wf = true → decode (encode i) = .ok i

/-- A word that decodes to a command is the word of that command, which is well formed: no other word spells it (R70,
R73, R75). -/
def Obligations.EncodeOfDecode : Prop :=
  ∀ (w : Word) (i : Instr), decode w = .ok i → i.wf = true ∧ encode i = w

/-- R77: what every 32-bit word decodes to. -/
def Obligations.DecodeIsRuleR77 : Prop :=
  ∀ w : Word, (decode w).toOption =
    if w = 0x00000001 then some .init
    else if w = 0x00000002 then some .block
    else if w &&& 0xFFFFC0FF = 0x00000003 then some (.final (w.extractLsb' 8 6).toNat)
    else none

/-- R76: the illegal words are those that match no row of the opcode map, and they are these; and what writing one to
CMD while BUSY = 0 does. -/
def Obligations.IllegalWordsAndTheirWrite : Prop :=
  ∀ w : Word,
    ((∃ e, decode w = .error e) ↔ ∀ i : Instr, w &&& i.maskBits ≠ i.matchBits) ∧
    ((∃ e, decode w = .error e) ↔
      (w.extractLsb' 0 8 = 0x00 ∨ 0x04 ≤ w.extractLsb' 0 8 ∨ w.extractLsb' 14 18 ≠ 0 ∨
        (w.extractLsb' 8 6 ≠ 0 ∧ (w.extractLsb' 0 8 = 0x01 ∨ w.extractLsb' 0 8 = 0x02)))) ∧
    ∀ (s : State) (e : IllegalWord), decode w = .error e → s.busy = false → s.rst = false →
      busWrite .cmd w s = .next (if s.err then s else { s with err := true, errcode := 1 })

/-- The fifteen rows of the decoding table of 95_test_vectors.md §7; which of its three names an illegal word is refused
under is the model's choice (log entry 13). -/
def Obligations.SampleCommandWords : Prop :=
  decode 0x00000001 = .ok .init ∧ decode 0x00000002 = .ok .block ∧ decode 0x00000003 = .ok (.final 0) ∧
  decode 0x00000303 = .ok (.final 3) ∧ decode 0x00003703 = .ok (.final 55) ∧
  decode 0x00003803 = .ok (.final 56) ∧ decode 0x00003F03 = .ok (.final 63) ∧ decode 0x00000000 = .error .unknownOp ∧
  decode 0x00000101 = .error .operandSet ∧ decode 0x00003F02 = .error .operandSet ∧
  decode 0x00004003 = .error .reservedSet ∧ decode 0x80000003 = .error .reservedSet ∧
  decode 0x00000004 = .error .unknownOp ∧ decode 0x000000FF = .error .unknownOp ∧
  decode 0xFFFFFFFF = .error .reservedSet

/-! ## The word mixer (41_word_mixer.md) -/

/-- R111: `rotr(x, n)` as shifts, and bit k of it is bit (k + n) mod 32 of x. -/
def Obligations.RotrMovesBits : Prop :=
  ∀ (x : Word) (n : Nat) (h : 0 < n ∧ n < 32),
    rotr x n h = (x >>> n) ||| (x <<< (32 - n)) ∧
    ∀ k, k < 32 → (rotr x n h).getLsbD k = x.getLsbD ((k + n) % 32)

/-- R115, R116: Ch and Maj as gates; Ch chooses bit k of f or of g by bit k of e, and Maj takes the majority of bit k of
its operands. -/
def Obligations.ChooseAndMajorityBits : Prop :=
  ∀ (x y z : Word),
    Ch x y z = (x &&& y) ^^^ (~~~x &&& z) ∧ Maj x y z = (x &&& y) ^^^ (x &&& z) ^^^ (y &&& z) ∧
    ∀ k : Nat,
    (Ch x y z).getLsbD k = (if x.getLsbD k then y.getLsbD k else z.getLsbD k) ∧
    ((Maj x y z).getLsbD k = true ↔
      2 ≤ (x.getLsbD k).toNat + (y.getLsbD k).toNat + (z.getLsbD k).toNat)

/-- The n-ary adder is the sum modulo 2^32, whatever the order of its terms (R114). -/
def Obligations.AdderIsSumModulo : Prop :=
  ∀ xs ys : List Word,
    (addAll xs).toNat = (xs.map BitVec.toNat).sum % 2 ^ 32 ∧ (xs.Perm ys → addAll xs = addAll ys)

/-- Σ0, Σ1, σ0, σ1 and the shift at the operands that tell rotations from shifts (R112, R117 to R121;
95_test_vectors.md §3). -/
def Obligations.SigmaTable : Prop :=
  (bigSigma0 0xFFFFFFFF = 0xFFFFFFFF ∧ bigSigma1 0xFFFFFFFF = 0xFFFFFFFF ∧
    smallSigma0 0xFFFFFFFF = 0x1FFFFFFF ∧ smallSigma1 0xFFFFFFFF = 0x003FFFFF) ∧
  (bigSigma0 0x00000001 = 0x40080400 ∧ bigSigma1 0x00000001 = 0x04200080 ∧
    smallSigma0 0x00000001 = 0x02004000 ∧ smallSigma1 0x00000001 = 0x0000A000) ∧
  (bigSigma0 0x6A09E667 = 0xCE20B47E ∧ bigSigma1 0x510E527F = 0x3587272B ∧
    smallSigma0 0x61626380 = 0x940E90EF ∧ smallSigma1 0x00000018 = 0x000F0000) ∧
  (shr 0x12345678 3 = 0x02468ACF ∧ shr 0xFFFFFFFF 10 = 0x003FFFFF)

/-! ## The padder (40_padder.md) -/

/-- R102: `pad_len` in its three cases, and its range. -/
def Obligations.PadLengthCases : Prop :=
  ∀ L : Nat,
    (1 ≤ padLen L ∧ padLen L ≤ 64) ∧
    (L % 64 ≤ 55 → padLen L = 56 - L % 64) ∧
    (57 ≤ L % 64 → padLen L = 120 - L % 64) ∧
    (L % 64 = 56 → padLen L = 64)

/-- R104: the padded length is a multiple of 64, greater than the message's, and `L + pad_len + 8`. -/
def Obligations.PaddedLengthInvariants : Prop :=
  ∀ m : List Byte,
    (pad m).length % 64 = 0 ∧ m.length < (pad m).length ∧ (pad m).length = m.length + padLen m.length + 8

/-- R105: how many blocks the padded buffer holds. -/
def Obligations.PaddedBlockCount : Prop :=
  (∀ m : List Byte, (pad m).length = 64 * ((m.length + 8) / 64 + 1)) ∧
  ∀ q n : Nat, n < 64 → nblocks (64 * q + n) = if n ≤ 55 then q + 1 else q + 2

/-- R106: padding touches only the tail, and the tail's padding has one or two blocks. (For L past 2^61 - 1, outside the
padder's domain, this is the model's choice: log entry 21.) -/
def Obligations.PaddingTouchesOnlyTail : Prop :=
  (∀ (tail : List Byte) (L : Nat),
    padTail tail L = tail ++ [0x80] ++ zeroBytes (padLen L - 1) ++ be64bytes (BitVec.ofNat 64 (8 * L))) ∧
  (∀ (m : List Byte) (q n : Nat), m.length = 64 * q + n → n < 64 →
    pad m = m.take (64 * q) ++ padTail (m.drop (64 * q)) m.length ∧
    (padTail (m.drop (64 * q)) m.length).length = (if n ≤ 55 then 64 else 128) ∧
    blocksOf q (pad m) = blocksOf q m) ∧
  ∀ L L' : Nat, L % 64 = L' % 64 → padLen L = padLen L'

/-- The padded buffer is the message, the byte 0x80, zeros, and eight bytes whose big-endian value is the exact bit
length (R101, R103). -/
def Obligations.LengthFieldIsExact : Prop :=
  ∀ m : List Byte, m.length ≤ maxMsgBytes →
    ∃ z f, pad m = m ++ 0x80 :: (List.replicate z 0 ++ f) ∧ f.length = 8 ∧
      f.foldl (fun acc b => acc * 256 + b.toNat) 0 = 8 * m.length

/-! ## Schedule and compressor (42_message_schedule.md, 43_compressor.md) -/

/-- R131: W[0..15] are the block's big-endian words, so for a block of sixteen words they are those words. -/
def Obligations.ScheduleFirstWords : Prop :=
  (∀ (block : List Byte) (j : Nat), block.length = 64 → j < 16 →
    (schedule block).getD j 0 =
      be32 (block.getD (4 * j) 0) (block.getD (4 * j + 1) 0) (block.getD (4 * j + 2) 0)
        (block.getD (4 * j + 3) 0)) ∧
  ∀ (x : Vector Word 16) (j : Fin 16), (schedule (x.toList.flatMap be32bytes)).getD j.val 0 = x[j]

/-- R132: the recurrence of W[16..63]. (For a block of other than 64 bytes this is the model's choice: log entry 22.) -/
def Obligations.ScheduleRecurrence : Prop :=
  ∀ (block : List Byte) (i : Nat), 16 ≤ i → i < 64 →
    let W := fun t => (schedule block).getD t 0
    W i = W (i - 16) + smallSigma0 (W (i - 15)) + W (i - 7) + smallSigma1 (W (i - 2))

/-- R143: one round writes the eight variables together. -/
def Obligations.RoundWritesVariables : Prop :=
  ∀ (t : Nat) (a b c d e f g h w : Word), t < 64 →
    let S1 := rotr e 6 ^^^ rotr e 11 ^^^ rotr e 25
    let T1 := h + S1 + ((e &&& f) ^^^ (~~~e &&& g)) + K.getD t 0 + w
    let S0 := rotr a 2 ^^^ rotr a 13 ^^^ rotr a 22
    let T2 := S0 + ((a &&& b) ^^^ (a &&& c) ^^^ (b &&& c))
    shaRound t ⟨a, b, c, d, e, f, g, h⟩ w = ⟨T1 + T2, a, b, c, d + T1, e, f, g⟩

/-- R144: compressing a block adds the variables after the 64 rounds to the H from before the block, element by element;
the engine's datapath does so and leaves everything but H, W and a..h alone. (For a block of other than 64 bytes this is
the model's choice: log entry 22.) -/
def Obligations.BlockCompressionAddsBack : Prop :=
  ∀ (s : State) (block : List Byte),
    let v := rounds (schedule block) ⟨s.h[0], s.h[1], s.h[2], s.h[3], s.h[4], s.h[5], s.h[6], s.h[7]⟩ 64
    let H := #v[s.h[0] + v.a, s.h[1] + v.b, s.h[2] + v.c, s.h[3] + v.d, s.h[4] + v.e, s.h[5] + v.f, s.h[6] + v.g,
      s.h[7] + v.h]
    compressBlock s.h block = H ∧ ∃ w wv, engineCompress s block = { s with h := H, w := w, wv := wv }

/-- R145: compressing a buffer goes on from the accumulators of its first blocks, starting from H0. (Where `b` is not a
whole number of blocks this is the model's choice: log entry 22.) -/
def Obligations.CompressionContinues : Prop :=
  compress [] = H0 ∧
  ∀ a b : List Byte, a.length % 64 = 0 →
    compress (a ++ b) = (blocksOf (b.length / 64) b).foldl compressBlock (compress a)

/-! ## The output encoder (44_output_encoder.md) -/

/-- R160: digest byte 4i + k is bits [31 - 8k : 24 - 8k] of H[i], and the digest has 32 bytes. -/
def Obligations.FinalizeIsBigEndian : Prop :=
  ∀ h : Vector Word 8, (finalize h).length = 32 ∧
    ∀ (i : Fin 8) (k : Nat), k < 4 → (finalize h).getD (4 * i.val + k) 0 = h[i].extractLsb' (24 - 8 * k) 8

/-- Each byte becomes two digits, high nibble first (R161), each the lowercase digit of its value with its ASCII code
(R162). The order of the nibbles and the codes are general knowledge in the spec itself, PRESUMED (log entry 15). -/
def Obligations.HexDigitsOfBytes : Prop :=
  (∀ bs : List Byte, (toHex bs).length = 2 * bs.length ∧
    ∀ i, i < bs.length →
      (toHex bs).getD (2 * i) '?' = hexdig (BitVec.ofNat 4 ((bs.getD i 0).toNat / 16)) ∧
      (toHex bs).getD (2 * i + 1) '?' = hexdig (BitVec.ofNat 4 ((bs.getD i 0).toNat % 16))) ∧
  ∀ v : BitVec 4, hexdig v = "0123456789abcdef".toList.getD v.toNat '?' ∧
    (charCode (hexdig v)).toNat = if v.toNat < 10 then 0x30 + v.toNat else 0x61 + (v.toNat - 10)

/-- R164: the digest string is always 64 lowercase hex characters. (For a message past 2^61 - 1 bytes, which is no valid
input, this is the model's choice: log entry 21.) -/
def Obligations.DigestIsSixtyFourLowercase : Prop :=
  ∀ m : List Byte, (sha256Hex m).length = 64 ∧
    ∀ c ∈ sha256Hex m, ('0' ≤ c ∧ c ≤ '9') ∨ ('a' ≤ c ∧ c ≤ 'f')

/-- R165: HEX holds the characters of `to_hex(finalize(H))` in order, four a word, HEX[2i] and HEX[2i+1] those of H[i], and every byte
of HEX is the code of a lowercase hex digit. -/
def Obligations.HexRegistersHoldDigits : Prop :=
  ∀ h : Vector Word 8,
    let c := fun k => charCode ((toHex (finalize h)).getD k '?')
    (∀ j : Fin 16, (hexWords h)[j] =
      be32 (c (4 * j.val)) (c (4 * j.val + 1)) (c (4 * j.val + 2)) (c (4 * j.val + 3))) ∧
    hexChars (hexWords h) = toHex (finalize h) ∧
    (∀ i : Fin 8,
      (be32bytes ((hexWords h).getD (2 * i.val) 0) ++ be32bytes ((hexWords h).getD (2 * i.val + 1) 0)) =
        (toHex (be32bytes h[i])).map charCode) ∧
    ∀ b ∈ (hexWords h).toList.flatMap be32bytes,
      (0x30 ≤ b.toNat ∧ b.toNat ≤ 0x39) ∨ (0x61 ≤ b.toNat ∧ b.toNat ≤ 0x66)

/-- The source's two known answers, for "abc" and the empty message (R163; 90_conflicts.md C1), as accumulators: with
R165 they fix the characters. -/
def Obligations.KnownAnswers : Prop :=
  compress (pad [0x61, 0x62, 0x63]) =
    #v[0xba7816bf, 0x8f01cfea, 0x414140de, 0x5dae2223, 0xb00361a3, 0x96177a9c, 0xb410ff61, 0xf20015ad] ∧
  compress (pad []) =
    #v[0xe3b0c442, 0x98fc1c14, 0x9afbf4c8, 0x996fb924, 0x27ae41e4, 0x649b934c, 0xa495991b, 0x7852b855]

/-! ## Commands (45_commands.md): acceptance -/

/-- INIT in the phase IDLE is accepted (R171, R173): ACTIVE, DONE, ERR, ERRCODE, TOTAL, PEND and BUSY are written and
nothing else. -/
def Obligations.InitIsAccepted : Prop :=
  ∀ s : State, s.pend = none → s.busy = false →
    exec .init s = .next { s with
      active := true, done := false, err := false, errcode := 0, total := 0, pend := some .init, busy := true }

/-- BLOCK in the phase IDLE of an open computation with room for 64 bytes is accepted: PEND and BUSY are written and
nothing else (R171, R174). -/
def Obligations.BlockIsAccepted : Prop :=
  ∀ s : State, s.pend = none → s.busy = false → s.active = true → s.total.toNat + 64 ≤ 2 ^ 61 - 1 →
    exec .block s = .next { s with pend := some .block, busy := true }

/-- FINAL N in the phase IDLE of an open computation is accepted: PEND and BUSY are written and nothing else (R171,
R175); the room it needs is there in every state of the invariant. -/
def Obligations.FinalIsAccepted : Prop :=
  ∀ (s : State) (n : Nat), s.Inv → n ≤ 63 → s.pend = none → s.active = true →
    exec (.final n) s = .next { s with pend := some (.final n), busy := true }

/-- R171: the outcome of every CMD write, with its checks in the order written. -/
def Obligations.CmdWriteChecksInOrder : Prop :=
  ∀ (w : Word) (s : State), s.rst = false → s.busy = s.pend.isSome →
    let err := fun code : BitVec 4 => if s.err then s else { s with err := true, errcode := code }
    busWrite .cmd w s = .next (
      if s.busy then err 2
      else
        match decode w with
        | .error _ => err 1
        | .ok .init => { s with
            active := true, done := false, err := false, errcode := 0, total := 0, pend := some .init, busy := true }
        | .ok .block =>
          if s.active = false then err 3
          else if s.total.toNat + 64 > 2 ^ 61 - 1 then err 4
          else { s with pend := some .block, busy := true }
        | .ok (.final n) =>
          if s.active = false then err 3
          else if s.total.toNat + n > 2 ^ 61 - 1 then err 4
          else { s with pend := some (.final n), busy := true })

/-- A CMD write that is rejected (PEND stays as it was) changes nothing but ERR and ERRCODE, and those only if ERR was 0;
a BLK write while BUSY = 1 neither (R208). -/
def Obligations.RejectedTransactionsChangeOnlyError : Prop :=
  ∀ s : State, s.Inv →
    (∀ (w : Word) (t : State), busWrite .cmd w s = .next t → t.pend = s.pend →
      t = { s with err := t.err, errcode := t.errcode } ∧ (s.err = true → t = s)) ∧
    ∀ (j : Fin 16) (v : Word) (t : State), s.busy = true → busWrite (.blk j) v s = .next t →
      t = { s with err := t.err, errcode := t.errcode } ∧ (s.err = true → t = s)

/-- R201: the first error wins, and a step sets ERR in no other way, on the host's turn alone; the codes of the four
errors (R202). -/
def Obligations.FirstErrorWins : Prop :=
  (∀ (k : ErrKind) (s : State),
    (s.err = false → raiseErr k s = { s with err := true, errcode := k.code }) ∧
    (s.err = true → raiseErr k s = s)) ∧
  (∀ s t : State, step s = .next t → t.err = true →
    (s.err = true ∧ t.errcode = s.errcode) ∨
    (s.err = false ∧ moveOf s = .host ∧
      ∃ k, t = raiseErr k { s with schedule := s.schedule.tail, hpc := s.hpc + 1 })) ∧
  ErrKind.illegal.code = 1 ∧ ErrKind.busy.code = 2 ∧ ErrKind.seq.code = 3 ∧ ErrKind.len.code = 4

/-- LEN (R206): in an open computation with nothing pending, BLOCK records LEN and is not latched exactly at
TOTAL = 2^61 - 64, and is accepted at every other TOTAL; FINAL N is accepted at every TOTAL (R175). -/
def Obligations.LengthLimitIsReachedOnlyByBlock : Prop :=
  ∀ (s : State) (n : Nat), s.Inv → s.pend = none → s.active = true → n ≤ 63 →
    exec .block s = .next (
      if s.total.toNat = 2 ^ 61 - 64 then (if s.err then s else { s with err := true, errcode := 4 })
      else { s with pend := some .block, busy := true }) ∧
    exec (.final n) s = .next { s with pend := some (.final n), busy := true }

/-! ## Commands: completion -/

/-- complete(INIT) (R173, R172): H <- H0, Hw <- true, the latch empties, BUSY clears, and nothing else changes. -/
def Obligations.InitCompletes : Prop :=
  ∀ s : State, s.pend = some .init →
    exec .init s = .next { s with
      h := #v[0x6a09e667, 0xbb67ae85, 0x3c6ef372, 0xa54ff53a, 0x510e527f, 0x9b05688c, 0x1f83d9ab, 0x5be0cd19]
      hw := true, pend := none, busy := false }

/-- complete(BLOCK) (R174, R172): H takes the block of BLK in, TOTAL grows by 64, the latch empties, BUSY clears; beside
the datapath registers W, a..h and the model's draw counter nothing else changes. Words the host has written are read as
they stand. -/
def Obligations.BlockCompletes : Prop :=
  ∀ s : State, s.pend = some .block →
    (∃ w wv d, exec .block s = .next { s with
      h := compressBlock s.h (blockBytes s), total := s.total + 64, pend := none, busy := false
      w := w, wv := wv, drawCount := d }) ∧
    ((∀ j : Fin 16, s.blkw[j] = true) → blockBytes s = s.blk.toList.flatMap be32bytes)

/-- complete(FINAL N) (R175, R172): H takes in the one or two blocks of the padded tail, TOTAL becomes the message
length, HEX the packed digits of H, DONE is set, ACTIVE and BUSY clear, the latch empties; beside W, a..h and the model's
draw counter nothing else changes. The tail is the first N bytes of BLK where the host has written their words. -/
def Obligations.FinalCompletes : Prop :=
  ∀ (s : State) (n : Nat), s.Inv → s.pend = some (.final n) →
    (∃ w wv d,
      let H := (blocksOf (if n ≤ 55 then 1 else 2) (padTail (tailBytes n s) (s.total.toNat + n))).foldl
        compressBlock s.h
      exec (.final n) s = .next { s with
        h := H, hex := hexWords H, total := s.total + BitVec.ofNat 64 n, done := true, active := false
        pend := none, busy := false, w := w, wv := wv, drawCount := d }) ∧
    ((∀ j : Fin 16, j.val < (n + 3) / 4 → s.blkw[j] = true) →
      tailBytes n s = (s.blk.toList.flatMap be32bytes).take n)

/-- FINAL N does not read BLK past byte N-1 (R175): changing the rest of BLK before its completion changes nothing else
after it. -/
def Obligations.FinalIgnoresBytesPastTail : Prop :=
  ∀ (s t : State) (n : Nat) (j : Fin 16) (v : Word), n ≤ 63 → s.pend = some (.final n) →
    (4 * j.val < n → s.blkw[j] = true ∧
      ∀ k, 4 * j.val + k < n → k < 4 → (be32bytes v).getD k 0 = (be32bytes s.blk[j]).getD k 0) →
    exec (.final n) s = .next t → exec (.final n) (storeBlk j v s) = .next (storeBlk j v t)

/-- R186: the host's procedure for one message (R185) gives what the one-call function gives, from any idle core: H is
compress(pad(m)), the characters of HEX are sha256_hex(m), TOTAL is L, and STATUS is DONE alone. -/
def Obligations.ProcedureEqualsOneCallHash : Prop :=
  ∀ (m : List Byte) (s : State), m.length ≤ maxMsgBytes → s.pend = none → s.busy = false → s.rst = false →
    ∃ t, hashMessage m s = .next t ∧ t.h = compress (pad m) ∧ hexChars t.hex = sha256Hex m ∧
      t.total.toNat = m.length ∧ statusWord t = 0x00000004

/-! ## The register window (20_memory.md, 45_commands.md) -/

/-- R54: the offset of each register leads back to it, and every offset of the map is an aligned offset of the window. -/
def Obligations.RegisterMapIsRuleR54 : Prop :=
  (∀ r : Reg,
    (∀ off, r = .reserved off → off % 4 = 0 ∧ ((0x010 ≤ off ∧ off ≤ 0x03C) ∨ (0x0A0 ≤ off ∧ off ≤ 0x0BC))) →
    regAt r.offset = r ∧ r.offset % 4 = 0 ∧ r.offset ≤ 0x0FC) ∧
  Reg.cmd.offset = 0x000 ∧ Reg.status.offset = 0x004 ∧ Reg.totalLo.offset = 0x008 ∧ Reg.totalHi.offset = 0x00C ∧
  (∀ j : Fin 16, (Reg.blk j).offset = 0x040 + 4 * j.val) ∧ (∀ i : Fin 8, (Reg.h i).offset = 0x080 + 4 * i.val) ∧
  ∀ j : Fin 16, (Reg.hex j).offset = 0x0C0 + 4 * j.val

/-- R181: the fields of STATUS as a host reads them, at every time `rst` is released; bits 31:8 are zero. -/
def Obligations.StatusReadsItsFields : Prop :=
  ∀ s : State, s.rst = false →
    let v := (busRead .status s).1
    v.getLsbD 0 = s.busy ∧ v.getLsbD 1 = s.active ∧ v.getLsbD 2 = s.done ∧ v.getLsbD 3 = s.err ∧
    v.extractLsb' 4 4 = s.errcode ∧ v.extractLsb' 8 24 = 0

/-- R178, R179, R180, R182, R183: what a read returns where the spec fixes it. -/
def Obligations.ReadsReturnTheRegister : Prop :=
  ∀ s : State, s.rst = false →
    (∀ j : Fin 16, s.blkw[j] = true → (busRead (.blk j) s).1 = s.blk[j]) ∧
    (∀ i : Fin 8, s.busy = false → s.hw = true → (busRead (.h i) s).1 = s.h[i]) ∧
    (∀ j : Fin 16, s.busy = false → s.done = true → (busRead (.hex j) s).1 = s.hex[j]) ∧
    (s.busy = false →
      (busRead .totalHi s).1.toNat * 2 ^ 32 + (busRead .totalLo s).1.toNat = s.total.toNat) ∧
    (busRead .cmd s).1 = 0

/-- R178, R179, R180, R182, R230: where a read is a draw it returns the next draw, and the draw after that is another. -/
def Obligations.OtherReadsAreDraws : Prop :=
  ∀ (s : State) (r : Reg),
    (s.rst = true ∨
      (∃ j : Fin 16, r = .blk j ∧ s.blkw[j] = false) ∨
      (∃ i : Fin 8, r = .h i ∧ (s.busy = true ∨ s.hw = false)) ∨
      (∃ j : Fin 16, r = .hex j ∧ (s.busy = true ∨ s.done = false)) ∨
      ((r = .totalLo ∨ r = .totalHi) ∧ s.busy = true)) →
    busRead r s = (Config.drawWord s.drawCount, { s with drawCount := s.drawCount + 1 })

/-- R56, R57: no read changes the core, and of the writes only those to CMD and BLK have an effect, whether or not
BUSY = 1. -/
def Obligations.OnlyCmdAndBlkWritesHaveEffect : Prop :=
  (∀ (r : Reg) (s : State), ∃ d, (busRead r s).2 = { s with drawCount := d }) ∧
  ∀ (r : Reg) (v : Word) (s : State), r ≠ .cmd → (∀ j, r ≠ .blk j) → busWrite r v s = .next s

/-- R55: a reserved slot reads 0 and ignores writes without an error. -/
def Obligations.ReservedSlotsReadZero : Prop :=
  ∀ (s : State) (off : Nat), s.rst = false → off % 4 = 0 →
    ((0x010 ≤ off ∧ off ≤ 0x03C) ∨ (0x0A0 ≤ off ∧ off ≤ 0x0BC)) →
    busRead (regAt off) s = (0, s) ∧ ∀ v, busWrite (regAt off) v s = .next s

/-- R177: a BLK write stores the word while BUSY = 0, and the word is then read back; in the BUSY window it is dropped
with error BUSY. -/
def Obligations.BlkWriteStoresOrIsDropped : Prop :=
  ∀ (s : State) (j : Fin 16) (v : Word), s.rst = false →
    (s.busy = true →
      busWrite (.blk j) v s = .next (if s.err then s else { s with err := true, errcode := 2 })) ∧
    (s.busy = false → ∃ t, busWrite (.blk j) v s = .next t ∧
      t = { s with blk := t.blk, blkw := t.blkw } ∧ busRead (.blk j) t = (v, t) ∧
      ∀ k : Fin 16, k ≠ j → t.blk[k] = s.blk[k] ∧ t.blkw[k] = s.blkw[k])

/-- R36: TOTAL_HI bits [31:29], the bits [63:61] of TOTAL, always read 0. -/
def Obligations.TotalTopBitsReadZero : Prop :=
  ∀ s : State, s.Inv → s.rst = false → s.busy = false → (busRead .totalHi s).1.extractLsb' 29 3 = 0

/-! ## Steps (20_memory.md R62, 30_encoding.md R79) -/

/-- A host CMD write whose word decodes to a command, made while BUSY = 0, runs that command, after the host has gone on
to its next statement and the schedule to its next entry (R171). -/
def Obligations.StepRunsWrittenCommand : Prop :=
  ∀ (s : State) (w : Word) (i : Instr), moveOf s = .host → s.prog[s.hpc]? = some (.wr { off := 0x000 } w) →
    s.rst = false → s.busy = false → decode w = .ok i →
    step s = exec i { s with schedule := s.schedule.tail, hpc := s.hpc + 1 }

/-- The engine's move runs the pending command, after the schedule has gone on to its next entry (R172). -/
def Obligations.StepRunsPendingCommand : Prop :=
  ∀ (s : State) (i : Instr), moveOf s = .engine → s.rst = false → s.pend = some i →
    step s = exec i { s with schedule := s.schedule.tail }

/-- Host statements (R79): a WR inside the interface is its BusWrite and an RD takes its BusRead's value into rK, BNZ
branches on the masked variable, HALT stays (log entry 10), and each but HALT and a taken BNZ goes on to the next
statement; a move of the engine with nothing pending does nothing (R62; log entry 2). -/
def Obligations.StepRunsHostStatements : Prop :=
  ∀ s : State,
    let s' := { s with schedule := s.schedule.tail }
    (∀ a v, moveOf s = .host → s.prog[s.hpc]? = some (.wr a v) →
      a.width = .word → a.burst = false → a.off % 4 = 0 → a.off < 0x100 →
      step s = busWrite (regAt a.off) v { s' with hpc := s.hpc + 1 }) ∧
    (∀ k a, moveOf s = .host → s.prog[s.hpc]? = some (.rd k a) →
      a.width = .word → a.burst = false → a.off % 4 = 0 → a.off < 0x100 →
      ∃ t, step s = .next t ∧ t.vars[k] = (busRead (regAt a.off) s').1 ∧
        (∀ l : Fin 16, l ≠ k → t.vars[l] = s.vars[l]) ∧
        ∃ d, t = { s' with hpc := s.hpc + 1, vars := t.vars, drawCount := d }) ∧
    (∀ k mask p, moveOf s = .host → s.prog[s.hpc]? = some (.bnz k mask p) →
      step s = .next { s' with hpc := if s.vars[k] &&& mask = 0 then s.hpc + 1 else p }) ∧
    (moveOf s = .host → s.prog[s.hpc]? = some .halt → step s = .next s') ∧
    (moveOf s = .engine → s.pend = none → step s = .next s')

/-- A host statement is refused exactly where its access is narrower than 32 bits, misaligned or a burst (R53), or
outside the window; that the model refuses the last, which R51 leaves to the platform, is its own choice (log entry
4). -/
def Obligations.AccessesOutsideInterfaceRefused : Prop :=
  ∀ (s : State) (a : BusAccess), moveOf s = .host →
    ((∃ v, s.prog[s.hpc]? = some (.wr a v)) ∨ ∃ k, s.prog[s.hpc]? = some (.rd k a)) →
    ((∃ r, step s = .refused r) ↔ (a.width ≠ .word ∨ a.off % 4 ≠ 0 ∨ a.burst = true ∨ 0x100 ≤ a.off))

/-- The assembler (R79, R80). A line becomes as many statements as its size says; the place of a label is the number of
statements of the lines before it; an assembled program is its lines' expansions, each at its place, which R80 gives;
FINAL n with n above 63 is rejected; and the procedure of R185 assembles, for every message. -/
def Obligations.AssemblerPlacesLabels : Prop :=
  (∀ labels pos line stmts, AsmLine.expand labels pos line = some stmts → stmts.length = line.size) ∧
  (∀ pre l post, AsmLine.label l ∉ pre →
    (labelPlaces 0 (pre ++ .label l :: post)).lookup l = some (pre.map AsmLine.size).sum) ∧
  (∀ pre line post p, assemble (pre ++ line :: post) = some p →
    ∃ before stmts after, p = before ++ stmts ++ after ∧ before.length = (pre.map AsmLine.size).sum ∧
      line.expand (labelPlaces 0 (pre ++ line :: post)) before.length = some stmts) ∧
  (∀ lines n, 63 < n → AsmLine.final n ∈ lines → assemble lines = none) ∧
  (∀ labels pos,
    let blkWord := fun (bs : List Byte) (j : Nat) => HostStmt.wr { off := 0x040 + 4 * j }
      (be32 (bs.getD (4 * j) 0) (bs.getD (4 * j + 1) 0) (bs.getD (4 * j + 2) 0) (bs.getD (4 * j + 3) 0))
    (∀ r v, AsmLine.expand labels pos (.wr r v) = some [.wr { off := r.offset } v]) ∧
    (∀ k r, AsmLine.expand labels pos (.rd k r) = some [.rd k { off := r.offset }]) ∧
    (∀ k mask l p, labels.lookup l = some p → AsmLine.expand labels pos (.bnz k mask l) = some [.bnz k mask p]) ∧
    AsmLine.expand labels pos .halt = some [.halt] ∧
    AsmLine.expand labels pos .init = some [.wr { off := 0x000 } 0x00000001] ∧
    AsmLine.expand labels pos .block = some [.wr { off := 0x000 } 0x00000002] ∧
    (∀ n, AsmLine.expand labels pos (.final n) =
      some [.wr { off := 0x000 } ((BitVec.ofNat 32 n <<< 8) ||| 0x00000003)]) ∧
    AsmLine.expand labels pos .wait = some [.rd 15 { off := 0x004 }, .bnz 15 0x1 pos] ∧
    (∀ bs, bs.length = 64 → AsmLine.expand labels pos (.loadBlk bs) = some ((List.range 16).map (blkWord bs))) ∧
    (∀ bs, bs.length ≤ 63 →
      AsmLine.expand labels pos (.loadTail bs) = some ((List.range ((bs.length + 3) / 4)).map (blkWord bs))) ∧
    AsmLine.expand labels pos .readH =
      some [.rd 0 { off := 0x080 }, .rd 1 { off := 0x084 }, .rd 2 { off := 0x088 }, .rd 3 { off := 0x08C },
        .rd 4 { off := 0x090 }, .rd 5 { off := 0x094 }, .rd 6 { off := 0x098 }, .rd 7 { off := 0x09C }]) ∧
  ∀ m : List Byte, ∃ p, assemble (procedure m) = some p

/-! ## Reset (70_reset_and_hazards.md) -/

/-- The reset event gives the core its reset state and discards a pending command, whose completion never comes (R230,
R231); the reset state's H, BLK, HEX, W and a..h are the model's choice (log entry 6), and nothing is said of them. -/
def Obligations.ResetEventClearsCore : Prop :=
  ∀ (s : State), moveOf s = .rst true →
    ∃ t, step s = .next t ∧ t.busy = false ∧ t.active = false ∧ t.done = false ∧ t.err = false ∧ t.errcode = 0 ∧
      t.total = 0 ∧ t.pend = none ∧ t.hw = false ∧ (∀ j : Fin 16, t.blkw[j] = false) ∧ t.rst = true ∧
      (∀ u, engineMove t = .next u → u = t) ∧
      t.prog = s.prog ∧ t.hpc = s.hpc ∧ t.vars = s.vars ∧ t.schedule = s.schedule.tail

/-- While `rst` is asserted the core ignores host transactions: a host's turn changes only the host, the schedule and
the model's draw counter, and an engine's turn the schedule alone (R230). The release of
`rst` changes nothing but the level (log entry 3). -/
def Obligations.HeldResetIgnoresHostAndReleaseKeepsCore : Prop :=
  ∀ s : State,
    (∀ t, s.rst = true → moveOf s = .host → step s = .next t →
      t = { s with
        schedule := s.schedule.tail, hpc := t.hpc, vars := t.vars, drawCount := t.drawCount }) ∧
    (s.rst = true → moveOf s = .engine → step s = .next { s with schedule := s.schedule.tail }) ∧
    (moveOf s = .rst false → step s = .next { s with schedule := s.schedule.tail, rst := false })

/-- The machine right after reset meets the invariant (R230). That a step from it changes nothing is the model's choice:
its host has no program at reset (log entry 9), and a host with no statement idles (log entry 10). -/
def Obligations.ResetMeetsInvariant : Prop := State.reset.Inv ∧ step State.reset = .next State.reset

/-! ## The whole machine -/

/-- Every step keeps the invariant of the core (R31 to R37, R230). -/
def Obligations.StepKeepsInvariant : Prop := ∀ s t : State, s.Inv → step s = .next t → t.Inv

/-- A step that does not go on is a host access outside the interface: no command, error or completion stops the machine
(93_implementation_defined.md §1). That an access at 0x100 or above is refused is the model's choice (log entry 4). -/
def Obligations.OnlyRefusedAccessesStop : Prop :=
  ∀ s : State, (∃ t, step s = .next t) ∨
    (moveOf s = .host ∧ ∃ a : BusAccess,
      (a.width ≠ .word ∨ a.off % 4 ≠ 0 ∨ a.burst = true ∨ 0x100 ≤ a.off) ∧ (∃ r, step s = .refused r) ∧
      ((∃ v, s.prog[s.hpc]? = some (.wr a v)) ∨ ∃ k, s.prog[s.hpc]? = some (.rd k a)))

/-- R209: ERR, once set, is cleared only by the acceptance of INIT and by reset, and as long as it stays set the code does
not change (R210). -/
def Obligations.ErrorClearedOnlyByInitOrReset : Prop :=
  ∀ s t : State, step s = .next t → s.err = true →
    (t.err = true ∧ t.errcode = s.errcode) ∨ moveOf s = .rst true ∨
    (moveOf s = .host ∧ s.busy = false ∧ s.rst = false ∧
      ∃ a w, s.prog[s.hpc]? = some (.wr a w) ∧ a.off = 0x000 ∧ decode w = .ok .init)

/-- BLK and its written marks change only by a host write to that word while BUSY = 0, and by reset: the engine never
writes BLK (R26, R38, R177). -/
def Obligations.BlkChangedOnlyByHostWrite : Prop :=
  ∀ (s t : State) (j : Fin 16), step s = .next t → (t.blk[j] ≠ s.blk[j] ∨ t.blkw[j] ≠ s.blkw[j]) →
    moveOf s = .rst true ∨
    (moveOf s = .host ∧ s.busy = false ∧ s.rst = false ∧
      ∃ a v, s.prog[s.hpc]? = some (.wr a v) ∧ a.off = 0x040 + 4 * j.val ∧ t.blk[j] = v ∧ t.blkw[j] = true)

/-- H changes only by a completion step of the engine and by reset (R22); HEX only by the completion of a FINAL and by
reset (R27). -/
def Obligations.DigestRegistersWrittenOnlyByEngine : Prop :=
  ∀ s t : State, s.Inv → step s = .next t →
    (t.h ≠ s.h → moveOf s = .rst true ∨ (moveOf s = .engine ∧ s.pend ≠ none)) ∧
    (t.hex ≠ s.hex → moveOf s = .rst true ∨ (moveOf s = .engine ∧ ∃ n, s.pend = some (.final n)))

/-- What changes TOTAL, ACTIVE, DONE, BUSY and PEND. TOTAL: the acceptance of INIT and reset (to 0), a completed BLOCK
(by 64) and a completed FINAL N (by N) (R36). ACTIVE: the acceptance of INIT sets it, a completed FINAL and reset clear it
(R32). DONE: a completed FINAL sets it, the acceptance of INIT and reset clear it (R33). BUSY and PEND: the acceptance of
a command by a CMD write fills them, its completion step and reset empty them (R31, R37). -/
def Obligations.ProgressChangesOnlyByCommandsAndReset : Prop :=
  ∀ s t : State, s.Inv → step s = .next t →
    let reset := moveOf s = .rst true
    let accepted := fun i : Instr => moveOf s = .host ∧ s.busy = false ∧ s.pend = none ∧ t.pend = some i
    let completed := fun i : Instr => moveOf s = .engine ∧ s.pend = some i ∧ t.pend = none
    (t.total ≠ s.total →
      (t.total = 0 ∧ (reset ∨ accepted .init)) ∨
      (completed .block ∧ t.total.toNat = s.total.toNat + 64) ∨
      ∃ n, completed (.final n) ∧ t.total.toNat = s.total.toNat + n) ∧
    (t.active ≠ s.active →
      (t.active = true ∧ accepted .init) ∨ (t.active = false ∧ (reset ∨ ∃ n, completed (.final n)))) ∧
    (t.done ≠ s.done →
      (t.done = true ∧ ∃ n, completed (.final n)) ∨ (t.done = false ∧ (reset ∨ accepted .init))) ∧
    (t.busy ≠ s.busy ∨ t.pend ≠ s.pend →
      (t.busy = false ∧ t.pend = none ∧ (reset ∨ ∃ i, completed i)) ∨
      (t.busy = true ∧ ∃ i, accepted i ∧
        ∃ a w, s.prog[s.hpc]? = some (.wr a w) ∧ a.off = 0x000 ∧ decode w = .ok i))

/-- R240: every accepted command completes. With no reset on the schedule, a machine with a pending command, run for one
step more than the schedule is long, has either stopped at a refused access of the host or passed a state with nothing
pending. That the engine moves once the schedule has ended is the model's form of the fairness of R240 (log entry
2). -/
def Obligations.PendingCommandCompletes : Prop :=
  ∀ s : State, s.Inv → s.rst = false → (∀ l, Move.rst l ∉ s.schedule) → s.pend ≠ none →
    ∃ k, k ≤ s.schedule.length + 1 ∧
      ((∃ r, runSteps k s = .refused r) ∨ ∃ t, runSteps k s = .next t ∧ t.pend = none ∧ t.busy = false)

/-- A BLK write in the BUSY window of an INIT: the completion step before the host's write and the write before the
completion step are both runs, with different ends (R62, R172, R177; 95_test_vectors.md P6). -/
def Obligations.BothInterleavingsAreRuns : Prop :=
  ∀ (s : State) (j : Fin 16) (v : Word), s.pend = some .init → s.busy = true → s.rst = false → s.err = false →
    s.prog[s.hpc]? = some (.wr { off := 0x040 + 4 * j.val } v) →
    (∃ t, runSteps 2 { s with schedule := [.engine, .host] } = .next t ∧ t.busy = false ∧ t.pend = none ∧
      t.blk[j] = v ∧ t.blkw[j] = true ∧ t.err = false) ∧
    ∃ t, runSteps 2 { s with schedule := [.host, .engine] } = .next t ∧ t.busy = false ∧ t.pend = none ∧
      t.blk = s.blk ∧ t.blkw = s.blkw ∧ t.err = true ∧ t.errcode = 2
end

