-- ==== Sys2Proof/Laws/Bytes.lean ====
section
/-! SUPPORT. Lengths and round trips of the byte-order operations. -/

namespace Sys2Proof.Machine

@[simp] theorem be32bytes_length (x : Word) : (be32bytes x).length = 4 := rfl

@[simp] theorem be64bytes_length (v : DWord) : (be64bytes v).length = 8 := rfl

@[simp] theorem zeroBytes_length (n : Nat) : (zeroBytes n).length = n := List.length_replicate

/-- Packing the bytes of a word gives the word. -/
@[simp] theorem be32_of_be32bytes (x : Word) :
    be32 (x.extractLsb' 24 8) (x.extractLsb' 16 8) (x.extractLsb' 8 8) (x.extractLsb' 0 8) = x := by
  unfold be32
  rw [BitVec.extractLsb'_append_extractLsb'_eq_extractLsb' (by decide),
    BitVec.extractLsb'_append_extractLsb'_eq_extractLsb' (by decide),
    BitVec.extractLsb'_append_extractLsb'_eq_extractLsb' (by decide)]
  exact BitVec.extractLsb'_eq_self

/-- The bytes of a packed word are the bytes packed. -/
@[simp] theorem be32bytes_of_be32 (b0 b1 b2 b3 : Byte) : be32bytes (be32 b0 b1 b2 b3) = [b0, b1, b2, b3] := by
  simp only [be32bytes, be32, List.cons.injEq, and_true]
  refine ⟨?_, ?_, ?_, ?_⟩ <;>
  · apply BitVec.eq_of_getLsbD_eq
    intro i hi
    simp only [BitVec.getLsbD_append, BitVec.getLsbD_extractLsb', hi, decide_true, Bool.true_and]
    split_ifs <;> first | omega | (congr 1; omega)

/-- Words unpacked make four bytes each. -/
@[simp] theorem flatMap_be32bytes_length (l : List Word) : (l.flatMap be32bytes).length = 4 * l.length := by
  induction l with
  | nil => rfl
  | cons a l ih => simp [ih]; omega

/-- The `j`-th packed word of unpacked words is the `j`-th word. -/
theorem packWord_flatMap (l : List Word) (j : Nat) (hj : j < l.length) : packWord (l.flatMap be32bytes) j = l[j] := by
  induction l generalizing j with
  | nil => simp at hj
  | cons a l ih =>
    cases j with
    | zero => simp [packWord, be32bytes]
    | succ j =>
      have h := ih j (by simpa using hj)
      simp only [packWord, List.flatMap_cons] at h ⊢
      simp only [be32bytes, List.cons_append, List.nil_append,
        show 4 * (j + 1) = 4 * j + 1 + 1 + 1 + 1 by omega, List.getD_cons_succ,
        show ∀ k, 4 * j + 1 + 1 + 1 + 1 + k = (4 * j + k) + 1 + 1 + 1 + 1 by intros; omega] at h ⊢
      simpa using h

/-- Byte 4i + k of unpacked words is byte k of the `i`-th word. -/
theorem flatMap_be32bytes_getElem? (l : List Word) (i k : Nat) (hk : k < 4) (hi : i < l.length) :
    (l.flatMap be32bytes)[4 * i + k]? = some ((be32bytes l[i]).getD k 0) := by
  induction l generalizing i with
  | nil => simp at hi
  | cons a l ih =>
    cases i with
    | zero => interval_cases k <;> simp [be32bytes]
    | succ i =>
      have h := ih i (by simpa using hi)
      rw [List.flatMap_cons, List.getElem?_append_right (by simp; omega)]
      simpa [show 4 * (i + 1) + k - 4 = 4 * i + k by omega] using h

@[simp] theorem blocksOf_length (q : Nat) (bs : List Byte) : (blocksOf q bs).length = q := by
  induction q generalizing bs with
  | zero => rfl
  | succ q ih => simp [blocksOf, ih]

/-- The first blocks of a longer sequence are those of its beginning. -/
theorem blocksOf_append (q : Nat) (a b : List Byte) (h : 64 * q ≤ a.length) : blocksOf q (a ++ b) = blocksOf q a := by
  induction q generalizing a with
  | zero => rfl
  | succ q ih =>
    simp only [blocksOf]
    rw [List.take_append_of_le_length (by omega), List.drop_append_of_le_length (by omega),
      ih _ (by simp; omega)]

/-- Blocks are cut in order: the first `q`, and then the rest. -/
theorem blocksOf_add (q r : Nat) (bs : List Byte) :
    blocksOf (q + r) bs = blocksOf q bs ++ blocksOf r (bs.drop (64 * q)) := by
  induction q generalizing bs with
  | zero => simp [blocksOf]
  | succ q ih =>
    rw [show q + 1 + r = (q + r) + 1 by omega]
    simp only [blocksOf, ih, List.cons_append, List.drop_drop]
    rw [show 64 + 64 * q = 64 * (q + 1) by omega]

@[simp] theorem finalize_length (h : Vector Word 8) : (finalize h).length = 32 := by simp [finalize]

@[simp] theorem toHex_length (bs : List Byte) : (toHex bs).length = 2 * bs.length := by
  induction bs with
  | nil => rfl
  | cons b bs ih => simp [toHex] at ih ⊢; omega

theorem toHex_append (a b : List Byte) : toHex (a ++ b) = toHex a ++ toHex b := by simp [toHex]

end Sys2Proof.Machine
end

