-- ==== Sys2Proof/Laws/State.lean ====
section
/-! SUPPORT. What each named update of the state leaves in each field: one lemma per field per update, so that no later
proof unfolds an update. -/

namespace Sys2Proof.Machine

/-! ## raiseErr -/

section raiseErr
variable (k : ErrKind) (s : State)

@[simp] theorem raiseErr_h : (raiseErr k s).h = s.h := by unfold raiseErr; split <;> simp_all
@[simp] theorem raiseErr_hw : (raiseErr k s).hw = s.hw := by unfold raiseErr; split <;> simp_all
@[simp] theorem raiseErr_wv : (raiseErr k s).wv = s.wv := by unfold raiseErr; split <;> simp_all
@[simp] theorem raiseErr_w : (raiseErr k s).w = s.w := by unfold raiseErr; split <;> simp_all
@[simp] theorem raiseErr_blk : (raiseErr k s).blk = s.blk := by unfold raiseErr; split <;> simp_all
@[simp] theorem raiseErr_blkw : (raiseErr k s).blkw = s.blkw := by unfold raiseErr; split <;> simp_all
@[simp] theorem raiseErr_hex : (raiseErr k s).hex = s.hex := by unfold raiseErr; split <;> simp_all
@[simp] theorem raiseErr_busy : (raiseErr k s).busy = s.busy := by unfold raiseErr; split <;> simp_all
@[simp] theorem raiseErr_active : (raiseErr k s).active = s.active := by unfold raiseErr; split <;> simp_all
@[simp] theorem raiseErr_done : (raiseErr k s).done = s.done := by unfold raiseErr; split <;> simp_all
@[simp] theorem raiseErr_err : (raiseErr k s).err = true := by unfold raiseErr; split <;> simp_all
@[simp] theorem raiseErr_errcode : (raiseErr k s).errcode = if s.err then s.errcode else k.code := by unfold raiseErr; split <;> simp_all
@[simp] theorem raiseErr_total : (raiseErr k s).total = s.total := by unfold raiseErr; split <;> simp_all
@[simp] theorem raiseErr_pend : (raiseErr k s).pend = s.pend := by unfold raiseErr; split <;> simp_all
@[simp] theorem raiseErr_rst : (raiseErr k s).rst = s.rst := by unfold raiseErr; split <;> simp_all
@[simp] theorem raiseErr_prog : (raiseErr k s).prog = s.prog := by unfold raiseErr; split <;> simp_all
@[simp] theorem raiseErr_hpc : (raiseErr k s).hpc = s.hpc := by unfold raiseErr; split <;> simp_all
@[simp] theorem raiseErr_vars : (raiseErr k s).vars = s.vars := by unfold raiseErr; split <;> simp_all
@[simp] theorem raiseErr_schedule : (raiseErr k s).schedule = s.schedule := by unfold raiseErr; split <;> simp_all
@[simp] theorem raiseErr_drawCount : (raiseErr k s).drawCount = s.drawCount := by unfold raiseErr; split <;> simp_all

end raiseErr

/-! ## clearErr -/

section clearErr
variable (s : State)

@[simp] theorem clearErr_h : (clearErr s).h = s.h := rfl
@[simp] theorem clearErr_hw : (clearErr s).hw = s.hw := rfl
@[simp] theorem clearErr_wv : (clearErr s).wv = s.wv := rfl
@[simp] theorem clearErr_w : (clearErr s).w = s.w := rfl
@[simp] theorem clearErr_blk : (clearErr s).blk = s.blk := rfl
@[simp] theorem clearErr_blkw : (clearErr s).blkw = s.blkw := rfl
@[simp] theorem clearErr_hex : (clearErr s).hex = s.hex := rfl
@[simp] theorem clearErr_busy : (clearErr s).busy = s.busy := rfl
@[simp] theorem clearErr_active : (clearErr s).active = s.active := rfl
@[simp] theorem clearErr_done : (clearErr s).done = s.done := rfl
@[simp] theorem clearErr_err : (clearErr s).err = false := rfl
@[simp] theorem clearErr_errcode : (clearErr s).errcode = 0 := rfl
@[simp] theorem clearErr_total : (clearErr s).total = s.total := rfl
@[simp] theorem clearErr_pend : (clearErr s).pend = s.pend := rfl
@[simp] theorem clearErr_rst : (clearErr s).rst = s.rst := rfl
@[simp] theorem clearErr_prog : (clearErr s).prog = s.prog := rfl
@[simp] theorem clearErr_hpc : (clearErr s).hpc = s.hpc := rfl
@[simp] theorem clearErr_vars : (clearErr s).vars = s.vars := rfl
@[simp] theorem clearErr_schedule : (clearErr s).schedule = s.schedule := rfl
@[simp] theorem clearErr_drawCount : (clearErr s).drawCount = s.drawCount := rfl

end clearErr

/-! ## latch -/

section latch
variable (i : Instr) (s : State)

@[simp] theorem latch_h : (latch i s).h = s.h := rfl
@[simp] theorem latch_hw : (latch i s).hw = s.hw := rfl
@[simp] theorem latch_wv : (latch i s).wv = s.wv := rfl
@[simp] theorem latch_w : (latch i s).w = s.w := rfl
@[simp] theorem latch_blk : (latch i s).blk = s.blk := rfl
@[simp] theorem latch_blkw : (latch i s).blkw = s.blkw := rfl
@[simp] theorem latch_hex : (latch i s).hex = s.hex := rfl
@[simp] theorem latch_busy : (latch i s).busy = true := rfl
@[simp] theorem latch_active : (latch i s).active = s.active := rfl
@[simp] theorem latch_done : (latch i s).done = s.done := rfl
@[simp] theorem latch_err : (latch i s).err = s.err := rfl
@[simp] theorem latch_errcode : (latch i s).errcode = s.errcode := rfl
@[simp] theorem latch_total : (latch i s).total = s.total := rfl
@[simp] theorem latch_pend : (latch i s).pend = some i := rfl
@[simp] theorem latch_rst : (latch i s).rst = s.rst := rfl
@[simp] theorem latch_prog : (latch i s).prog = s.prog := rfl
@[simp] theorem latch_hpc : (latch i s).hpc = s.hpc := rfl
@[simp] theorem latch_vars : (latch i s).vars = s.vars := rfl
@[simp] theorem latch_schedule : (latch i s).schedule = s.schedule := rfl
@[simp] theorem latch_drawCount : (latch i s).drawCount = s.drawCount := rfl

end latch

/-! ## finish -/

section finish
variable (s : State)

@[simp] theorem finish_h : (finish s).h = s.h := rfl
@[simp] theorem finish_hw : (finish s).hw = s.hw := rfl
@[simp] theorem finish_wv : (finish s).wv = s.wv := rfl
@[simp] theorem finish_w : (finish s).w = s.w := rfl
@[simp] theorem finish_blk : (finish s).blk = s.blk := rfl
@[simp] theorem finish_blkw : (finish s).blkw = s.blkw := rfl
@[simp] theorem finish_hex : (finish s).hex = s.hex := rfl
@[simp] theorem finish_busy : (finish s).busy = false := rfl
@[simp] theorem finish_active : (finish s).active = s.active := rfl
@[simp] theorem finish_done : (finish s).done = s.done := rfl
@[simp] theorem finish_err : (finish s).err = s.err := rfl
@[simp] theorem finish_errcode : (finish s).errcode = s.errcode := rfl
@[simp] theorem finish_total : (finish s).total = s.total := rfl
@[simp] theorem finish_pend : (finish s).pend = none := rfl
@[simp] theorem finish_rst : (finish s).rst = s.rst := rfl
@[simp] theorem finish_prog : (finish s).prog = s.prog := rfl
@[simp] theorem finish_hpc : (finish s).hpc = s.hpc := rfl
@[simp] theorem finish_vars : (finish s).vars = s.vars := rfl
@[simp] theorem finish_schedule : (finish s).schedule = s.schedule := rfl
@[simp] theorem finish_drawCount : (finish s).drawCount = s.drawCount := rfl

end finish

/-! ## openComputation -/

section openComputation
variable (s : State)

@[simp] theorem openComputation_h : (openComputation s).h = s.h := rfl
@[simp] theorem openComputation_hw : (openComputation s).hw = s.hw := rfl
@[simp] theorem openComputation_wv : (openComputation s).wv = s.wv := rfl
@[simp] theorem openComputation_w : (openComputation s).w = s.w := rfl
@[simp] theorem openComputation_blk : (openComputation s).blk = s.blk := rfl
@[simp] theorem openComputation_blkw : (openComputation s).blkw = s.blkw := rfl
@[simp] theorem openComputation_hex : (openComputation s).hex = s.hex := rfl
@[simp] theorem openComputation_busy : (openComputation s).busy = s.busy := rfl
@[simp] theorem openComputation_active : (openComputation s).active = true := rfl
@[simp] theorem openComputation_done : (openComputation s).done = false := rfl
@[simp] theorem openComputation_err : (openComputation s).err = s.err := rfl
@[simp] theorem openComputation_errcode : (openComputation s).errcode = s.errcode := rfl
@[simp] theorem openComputation_total : (openComputation s).total = 0 := rfl
@[simp] theorem openComputation_pend : (openComputation s).pend = s.pend := rfl
@[simp] theorem openComputation_rst : (openComputation s).rst = s.rst := rfl
@[simp] theorem openComputation_prog : (openComputation s).prog = s.prog := rfl
@[simp] theorem openComputation_hpc : (openComputation s).hpc = s.hpc := rfl
@[simp] theorem openComputation_vars : (openComputation s).vars = s.vars := rfl
@[simp] theorem openComputation_schedule : (openComputation s).schedule = s.schedule := rfl
@[simp] theorem openComputation_drawCount : (openComputation s).drawCount = s.drawCount := rfl

end openComputation

/-! ## loadH0 -/

section loadH0
variable (s : State)

@[simp] theorem loadH0_h : (loadH0 s).h = H0 := rfl
@[simp] theorem loadH0_hw : (loadH0 s).hw = true := rfl
@[simp] theorem loadH0_wv : (loadH0 s).wv = s.wv := rfl
@[simp] theorem loadH0_w : (loadH0 s).w = s.w := rfl
@[simp] theorem loadH0_blk : (loadH0 s).blk = s.blk := rfl
@[simp] theorem loadH0_blkw : (loadH0 s).blkw = s.blkw := rfl
@[simp] theorem loadH0_hex : (loadH0 s).hex = s.hex := rfl
@[simp] theorem loadH0_busy : (loadH0 s).busy = s.busy := rfl
@[simp] theorem loadH0_active : (loadH0 s).active = s.active := rfl
@[simp] theorem loadH0_done : (loadH0 s).done = s.done := rfl
@[simp] theorem loadH0_err : (loadH0 s).err = s.err := rfl
@[simp] theorem loadH0_errcode : (loadH0 s).errcode = s.errcode := rfl
@[simp] theorem loadH0_total : (loadH0 s).total = s.total := rfl
@[simp] theorem loadH0_pend : (loadH0 s).pend = s.pend := rfl
@[simp] theorem loadH0_rst : (loadH0 s).rst = s.rst := rfl
@[simp] theorem loadH0_prog : (loadH0 s).prog = s.prog := rfl
@[simp] theorem loadH0_hpc : (loadH0 s).hpc = s.hpc := rfl
@[simp] theorem loadH0_vars : (loadH0 s).vars = s.vars := rfl
@[simp] theorem loadH0_schedule : (loadH0 s).schedule = s.schedule := rfl
@[simp] theorem loadH0_drawCount : (loadH0 s).drawCount = s.drawCount := rfl

end loadH0

/-! ## setTotal -/

section setTotal
variable (L : Nat) (s : State)

@[simp] theorem setTotal_h : (setTotal L s).h = s.h := rfl
@[simp] theorem setTotal_hw : (setTotal L s).hw = s.hw := rfl
@[simp] theorem setTotal_wv : (setTotal L s).wv = s.wv := rfl
@[simp] theorem setTotal_w : (setTotal L s).w = s.w := rfl
@[simp] theorem setTotal_blk : (setTotal L s).blk = s.blk := rfl
@[simp] theorem setTotal_blkw : (setTotal L s).blkw = s.blkw := rfl
@[simp] theorem setTotal_hex : (setTotal L s).hex = s.hex := rfl
@[simp] theorem setTotal_busy : (setTotal L s).busy = s.busy := rfl
@[simp] theorem setTotal_active : (setTotal L s).active = s.active := rfl
@[simp] theorem setTotal_done : (setTotal L s).done = s.done := rfl
@[simp] theorem setTotal_err : (setTotal L s).err = s.err := rfl
@[simp] theorem setTotal_errcode : (setTotal L s).errcode = s.errcode := rfl
@[simp] theorem setTotal_total : (setTotal L s).total = BitVec.ofNat 64 L := rfl
@[simp] theorem setTotal_pend : (setTotal L s).pend = s.pend := rfl
@[simp] theorem setTotal_rst : (setTotal L s).rst = s.rst := rfl
@[simp] theorem setTotal_prog : (setTotal L s).prog = s.prog := rfl
@[simp] theorem setTotal_hpc : (setTotal L s).hpc = s.hpc := rfl
@[simp] theorem setTotal_vars : (setTotal L s).vars = s.vars := rfl
@[simp] theorem setTotal_schedule : (setTotal L s).schedule = s.schedule := rfl
@[simp] theorem setTotal_drawCount : (setTotal L s).drawCount = s.drawCount := rfl

end setTotal

/-! ## publish -/

section publish
variable (s : State)

@[simp] theorem publish_h : (publish s).h = s.h := rfl
@[simp] theorem publish_hw : (publish s).hw = s.hw := rfl
@[simp] theorem publish_wv : (publish s).wv = s.wv := rfl
@[simp] theorem publish_w : (publish s).w = s.w := rfl
@[simp] theorem publish_blk : (publish s).blk = s.blk := rfl
@[simp] theorem publish_blkw : (publish s).blkw = s.blkw := rfl
@[simp] theorem publish_hex : (publish s).hex = hexWords s.h := rfl
@[simp] theorem publish_busy : (publish s).busy = s.busy := rfl
@[simp] theorem publish_active : (publish s).active = false := rfl
@[simp] theorem publish_done : (publish s).done = true := rfl
@[simp] theorem publish_err : (publish s).err = s.err := rfl
@[simp] theorem publish_errcode : (publish s).errcode = s.errcode := rfl
@[simp] theorem publish_total : (publish s).total = s.total := rfl
@[simp] theorem publish_pend : (publish s).pend = s.pend := rfl
@[simp] theorem publish_rst : (publish s).rst = s.rst := rfl
@[simp] theorem publish_prog : (publish s).prog = s.prog := rfl
@[simp] theorem publish_hpc : (publish s).hpc = s.hpc := rfl
@[simp] theorem publish_vars : (publish s).vars = s.vars := rfl
@[simp] theorem publish_schedule : (publish s).schedule = s.schedule := rfl
@[simp] theorem publish_drawCount : (publish s).drawCount = s.drawCount := rfl

end publish

/-! ## useDraws -/

section useDraws
variable (n : Nat) (s : State)

@[simp] theorem useDraws_h : (useDraws n s).h = s.h := rfl
@[simp] theorem useDraws_hw : (useDraws n s).hw = s.hw := rfl
@[simp] theorem useDraws_wv : (useDraws n s).wv = s.wv := rfl
@[simp] theorem useDraws_w : (useDraws n s).w = s.w := rfl
@[simp] theorem useDraws_blk : (useDraws n s).blk = s.blk := rfl
@[simp] theorem useDraws_blkw : (useDraws n s).blkw = s.blkw := rfl
@[simp] theorem useDraws_hex : (useDraws n s).hex = s.hex := rfl
@[simp] theorem useDraws_busy : (useDraws n s).busy = s.busy := rfl
@[simp] theorem useDraws_active : (useDraws n s).active = s.active := rfl
@[simp] theorem useDraws_done : (useDraws n s).done = s.done := rfl
@[simp] theorem useDraws_err : (useDraws n s).err = s.err := rfl
@[simp] theorem useDraws_errcode : (useDraws n s).errcode = s.errcode := rfl
@[simp] theorem useDraws_total : (useDraws n s).total = s.total := rfl
@[simp] theorem useDraws_pend : (useDraws n s).pend = s.pend := rfl
@[simp] theorem useDraws_rst : (useDraws n s).rst = s.rst := rfl
@[simp] theorem useDraws_prog : (useDraws n s).prog = s.prog := rfl
@[simp] theorem useDraws_hpc : (useDraws n s).hpc = s.hpc := rfl
@[simp] theorem useDraws_vars : (useDraws n s).vars = s.vars := rfl
@[simp] theorem useDraws_schedule : (useDraws n s).schedule = s.schedule := rfl
@[simp] theorem useDraws_drawCount : (useDraws n s).drawCount = s.drawCount + n := rfl

end useDraws

/-! ## setH -/

section setH
variable (v : Vector Word 8) (s : State)

@[simp] theorem setH_h : (setH v s).h = v := rfl
@[simp] theorem setH_hw : (setH v s).hw = s.hw := rfl
@[simp] theorem setH_wv : (setH v s).wv = s.wv := rfl
@[simp] theorem setH_w : (setH v s).w = s.w := rfl
@[simp] theorem setH_blk : (setH v s).blk = s.blk := rfl
@[simp] theorem setH_blkw : (setH v s).blkw = s.blkw := rfl
@[simp] theorem setH_hex : (setH v s).hex = s.hex := rfl
@[simp] theorem setH_busy : (setH v s).busy = s.busy := rfl
@[simp] theorem setH_active : (setH v s).active = s.active := rfl
@[simp] theorem setH_done : (setH v s).done = s.done := rfl
@[simp] theorem setH_err : (setH v s).err = s.err := rfl
@[simp] theorem setH_errcode : (setH v s).errcode = s.errcode := rfl
@[simp] theorem setH_total : (setH v s).total = s.total := rfl
@[simp] theorem setH_pend : (setH v s).pend = s.pend := rfl
@[simp] theorem setH_rst : (setH v s).rst = s.rst := rfl
@[simp] theorem setH_prog : (setH v s).prog = s.prog := rfl
@[simp] theorem setH_hpc : (setH v s).hpc = s.hpc := rfl
@[simp] theorem setH_vars : (setH v s).vars = s.vars := rfl
@[simp] theorem setH_schedule : (setH v s).schedule = s.schedule := rfl
@[simp] theorem setH_drawCount : (setH v s).drawCount = s.drawCount := rfl

end setH

/-! ## setW -/

section setW
variable (v : Vector Word 64) (s : State)

@[simp] theorem setW_h : (setW v s).h = s.h := rfl
@[simp] theorem setW_hw : (setW v s).hw = s.hw := rfl
@[simp] theorem setW_wv : (setW v s).wv = s.wv := rfl
@[simp] theorem setW_w : (setW v s).w = v := rfl
@[simp] theorem setW_blk : (setW v s).blk = s.blk := rfl
@[simp] theorem setW_blkw : (setW v s).blkw = s.blkw := rfl
@[simp] theorem setW_hex : (setW v s).hex = s.hex := rfl
@[simp] theorem setW_busy : (setW v s).busy = s.busy := rfl
@[simp] theorem setW_active : (setW v s).active = s.active := rfl
@[simp] theorem setW_done : (setW v s).done = s.done := rfl
@[simp] theorem setW_err : (setW v s).err = s.err := rfl
@[simp] theorem setW_errcode : (setW v s).errcode = s.errcode := rfl
@[simp] theorem setW_total : (setW v s).total = s.total := rfl
@[simp] theorem setW_pend : (setW v s).pend = s.pend := rfl
@[simp] theorem setW_rst : (setW v s).rst = s.rst := rfl
@[simp] theorem setW_prog : (setW v s).prog = s.prog := rfl
@[simp] theorem setW_hpc : (setW v s).hpc = s.hpc := rfl
@[simp] theorem setW_vars : (setW v s).vars = s.vars := rfl
@[simp] theorem setW_schedule : (setW v s).schedule = s.schedule := rfl
@[simp] theorem setW_drawCount : (setW v s).drawCount = s.drawCount := rfl

end setW

/-! ## setWv -/

section setWv
variable (v : WorkVars) (s : State)

@[simp] theorem setWv_h : (setWv v s).h = s.h := rfl
@[simp] theorem setWv_hw : (setWv v s).hw = s.hw := rfl
@[simp] theorem setWv_wv : (setWv v s).wv = v := rfl
@[simp] theorem setWv_w : (setWv v s).w = s.w := rfl
@[simp] theorem setWv_blk : (setWv v s).blk = s.blk := rfl
@[simp] theorem setWv_blkw : (setWv v s).blkw = s.blkw := rfl
@[simp] theorem setWv_hex : (setWv v s).hex = s.hex := rfl
@[simp] theorem setWv_busy : (setWv v s).busy = s.busy := rfl
@[simp] theorem setWv_active : (setWv v s).active = s.active := rfl
@[simp] theorem setWv_done : (setWv v s).done = s.done := rfl
@[simp] theorem setWv_err : (setWv v s).err = s.err := rfl
@[simp] theorem setWv_errcode : (setWv v s).errcode = s.errcode := rfl
@[simp] theorem setWv_total : (setWv v s).total = s.total := rfl
@[simp] theorem setWv_pend : (setWv v s).pend = s.pend := rfl
@[simp] theorem setWv_rst : (setWv v s).rst = s.rst := rfl
@[simp] theorem setWv_prog : (setWv v s).prog = s.prog := rfl
@[simp] theorem setWv_hpc : (setWv v s).hpc = s.hpc := rfl
@[simp] theorem setWv_vars : (setWv v s).vars = s.vars := rfl
@[simp] theorem setWv_schedule : (setWv v s).schedule = s.schedule := rfl
@[simp] theorem setWv_drawCount : (setWv v s).drawCount = s.drawCount := rfl

end setWv

/-! ## expandInto -/

section expandInto
variable (b : List Byte) (s : State)

@[simp] theorem expandInto_h : (expandInto b s).h = s.h := setW_h _ _
@[simp] theorem expandInto_hw : (expandInto b s).hw = s.hw := setW_hw _ _
@[simp] theorem expandInto_wv : (expandInto b s).wv = s.wv := setW_wv _ _
@[simp] theorem expandInto_w : (expandInto b s).w = schedule b := setW_w _ _
@[simp] theorem expandInto_blk : (expandInto b s).blk = s.blk := setW_blk _ _
@[simp] theorem expandInto_blkw : (expandInto b s).blkw = s.blkw := setW_blkw _ _
@[simp] theorem expandInto_hex : (expandInto b s).hex = s.hex := setW_hex _ _
@[simp] theorem expandInto_busy : (expandInto b s).busy = s.busy := setW_busy _ _
@[simp] theorem expandInto_active : (expandInto b s).active = s.active := setW_active _ _
@[simp] theorem expandInto_done : (expandInto b s).done = s.done := setW_done _ _
@[simp] theorem expandInto_err : (expandInto b s).err = s.err := setW_err _ _
@[simp] theorem expandInto_errcode : (expandInto b s).errcode = s.errcode := setW_errcode _ _
@[simp] theorem expandInto_total : (expandInto b s).total = s.total := setW_total _ _
@[simp] theorem expandInto_pend : (expandInto b s).pend = s.pend := setW_pend _ _
@[simp] theorem expandInto_rst : (expandInto b s).rst = s.rst := setW_rst _ _
@[simp] theorem expandInto_prog : (expandInto b s).prog = s.prog := setW_prog _ _
@[simp] theorem expandInto_hpc : (expandInto b s).hpc = s.hpc := setW_hpc _ _
@[simp] theorem expandInto_vars : (expandInto b s).vars = s.vars := setW_vars _ _
@[simp] theorem expandInto_schedule : (expandInto b s).schedule = s.schedule := setW_schedule _ _
@[simp] theorem expandInto_drawCount : (expandInto b s).drawCount = s.drawCount := setW_drawCount _ _

end expandInto

/-! ## seed -/

section seed
variable (s : State)

@[simp] theorem seed_h : (seed s).h = s.h := setWv_h _ _
@[simp] theorem seed_hw : (seed s).hw = s.hw := setWv_hw _ _
@[simp] theorem seed_wv : (seed s).wv = seedVars s.h := setWv_wv _ _
@[simp] theorem seed_w : (seed s).w = s.w := setWv_w _ _
@[simp] theorem seed_blk : (seed s).blk = s.blk := setWv_blk _ _
@[simp] theorem seed_blkw : (seed s).blkw = s.blkw := setWv_blkw _ _
@[simp] theorem seed_hex : (seed s).hex = s.hex := setWv_hex _ _
@[simp] theorem seed_busy : (seed s).busy = s.busy := setWv_busy _ _
@[simp] theorem seed_active : (seed s).active = s.active := setWv_active _ _
@[simp] theorem seed_done : (seed s).done = s.done := setWv_done _ _
@[simp] theorem seed_err : (seed s).err = s.err := setWv_err _ _
@[simp] theorem seed_errcode : (seed s).errcode = s.errcode := setWv_errcode _ _
@[simp] theorem seed_total : (seed s).total = s.total := setWv_total _ _
@[simp] theorem seed_pend : (seed s).pend = s.pend := setWv_pend _ _
@[simp] theorem seed_rst : (seed s).rst = s.rst := setWv_rst _ _
@[simp] theorem seed_prog : (seed s).prog = s.prog := setWv_prog _ _
@[simp] theorem seed_hpc : (seed s).hpc = s.hpc := setWv_hpc _ _
@[simp] theorem seed_vars : (seed s).vars = s.vars := setWv_vars _ _
@[simp] theorem seed_schedule : (seed s).schedule = s.schedule := setWv_schedule _ _
@[simp] theorem seed_drawCount : (seed s).drawCount = s.drawCount := setWv_drawCount _ _

end seed

/-! ## runRounds -/

section runRounds
variable (s : State)

@[simp] theorem runRounds_h : (runRounds s).h = s.h := setWv_h _ _
@[simp] theorem runRounds_hw : (runRounds s).hw = s.hw := setWv_hw _ _
@[simp] theorem runRounds_wv : (runRounds s).wv = allRounds s.w s.wv := setWv_wv _ _
@[simp] theorem runRounds_w : (runRounds s).w = s.w := setWv_w _ _
@[simp] theorem runRounds_blk : (runRounds s).blk = s.blk := setWv_blk _ _
@[simp] theorem runRounds_blkw : (runRounds s).blkw = s.blkw := setWv_blkw _ _
@[simp] theorem runRounds_hex : (runRounds s).hex = s.hex := setWv_hex _ _
@[simp] theorem runRounds_busy : (runRounds s).busy = s.busy := setWv_busy _ _
@[simp] theorem runRounds_active : (runRounds s).active = s.active := setWv_active _ _
@[simp] theorem runRounds_done : (runRounds s).done = s.done := setWv_done _ _
@[simp] theorem runRounds_err : (runRounds s).err = s.err := setWv_err _ _
@[simp] theorem runRounds_errcode : (runRounds s).errcode = s.errcode := setWv_errcode _ _
@[simp] theorem runRounds_total : (runRounds s).total = s.total := setWv_total _ _
@[simp] theorem runRounds_pend : (runRounds s).pend = s.pend := setWv_pend _ _
@[simp] theorem runRounds_rst : (runRounds s).rst = s.rst := setWv_rst _ _
@[simp] theorem runRounds_prog : (runRounds s).prog = s.prog := setWv_prog _ _
@[simp] theorem runRounds_hpc : (runRounds s).hpc = s.hpc := setWv_hpc _ _
@[simp] theorem runRounds_vars : (runRounds s).vars = s.vars := setWv_vars _ _
@[simp] theorem runRounds_schedule : (runRounds s).schedule = s.schedule := setWv_schedule _ _
@[simp] theorem runRounds_drawCount : (runRounds s).drawCount = s.drawCount := setWv_drawCount _ _

end runRounds

/-! ## addBackH -/

section addBackH
variable (s : State)

@[simp] theorem addBackH_h : (addBackH s).h = addBack s.h s.wv := setH_h _ _
@[simp] theorem addBackH_hw : (addBackH s).hw = s.hw := setH_hw _ _
@[simp] theorem addBackH_wv : (addBackH s).wv = s.wv := setH_wv _ _
@[simp] theorem addBackH_w : (addBackH s).w = s.w := setH_w _ _
@[simp] theorem addBackH_blk : (addBackH s).blk = s.blk := setH_blk _ _
@[simp] theorem addBackH_blkw : (addBackH s).blkw = s.blkw := setH_blkw _ _
@[simp] theorem addBackH_hex : (addBackH s).hex = s.hex := setH_hex _ _
@[simp] theorem addBackH_busy : (addBackH s).busy = s.busy := setH_busy _ _
@[simp] theorem addBackH_active : (addBackH s).active = s.active := setH_active _ _
@[simp] theorem addBackH_done : (addBackH s).done = s.done := setH_done _ _
@[simp] theorem addBackH_err : (addBackH s).err = s.err := setH_err _ _
@[simp] theorem addBackH_errcode : (addBackH s).errcode = s.errcode := setH_errcode _ _
@[simp] theorem addBackH_total : (addBackH s).total = s.total := setH_total _ _
@[simp] theorem addBackH_pend : (addBackH s).pend = s.pend := setH_pend _ _
@[simp] theorem addBackH_rst : (addBackH s).rst = s.rst := setH_rst _ _
@[simp] theorem addBackH_prog : (addBackH s).prog = s.prog := setH_prog _ _
@[simp] theorem addBackH_hpc : (addBackH s).hpc = s.hpc := setH_hpc _ _
@[simp] theorem addBackH_vars : (addBackH s).vars = s.vars := setH_vars _ _
@[simp] theorem addBackH_schedule : (addBackH s).schedule = s.schedule := setH_schedule _ _
@[simp] theorem addBackH_drawCount : (addBackH s).drawCount = s.drawCount := setH_drawCount _ _

end addBackH

/-! ## engineCompress -/

section engineCompress
variable (b : List Byte) (s : State)

@[simp] theorem engineCompress_h : (engineCompress s b).h = compressBlock s.h b := by simp [engineCompress, compressBlock]
@[simp] theorem engineCompress_hw : (engineCompress s b).hw = s.hw := by simp [engineCompress]
@[simp] theorem engineCompress_wv : (engineCompress s b).wv = allRounds (schedule b) (seedVars s.h) := by simp [engineCompress]
@[simp] theorem engineCompress_w : (engineCompress s b).w = schedule b := by simp [engineCompress]
@[simp] theorem engineCompress_blk : (engineCompress s b).blk = s.blk := by simp [engineCompress]
@[simp] theorem engineCompress_blkw : (engineCompress s b).blkw = s.blkw := by simp [engineCompress]
@[simp] theorem engineCompress_hex : (engineCompress s b).hex = s.hex := by simp [engineCompress]
@[simp] theorem engineCompress_busy : (engineCompress s b).busy = s.busy := by simp [engineCompress]
@[simp] theorem engineCompress_active : (engineCompress s b).active = s.active := by simp [engineCompress]
@[simp] theorem engineCompress_done : (engineCompress s b).done = s.done := by simp [engineCompress]
@[simp] theorem engineCompress_err : (engineCompress s b).err = s.err := by simp [engineCompress]
@[simp] theorem engineCompress_errcode : (engineCompress s b).errcode = s.errcode := by simp [engineCompress]
@[simp] theorem engineCompress_total : (engineCompress s b).total = s.total := by simp [engineCompress]
@[simp] theorem engineCompress_pend : (engineCompress s b).pend = s.pend := by simp [engineCompress]
@[simp] theorem engineCompress_rst : (engineCompress s b).rst = s.rst := by simp [engineCompress]
@[simp] theorem engineCompress_prog : (engineCompress s b).prog = s.prog := by simp [engineCompress]
@[simp] theorem engineCompress_hpc : (engineCompress s b).hpc = s.hpc := by simp [engineCompress]
@[simp] theorem engineCompress_vars : (engineCompress s b).vars = s.vars := by simp [engineCompress]
@[simp] theorem engineCompress_schedule : (engineCompress s b).schedule = s.schedule := by simp [engineCompress]
@[simp] theorem engineCompress_drawCount : (engineCompress s b).drawCount = s.drawCount := by simp [engineCompress]

end engineCompress

/-! ## storeBlk -/

section storeBlk
variable (j : Fin 16) (v : Word) (s : State)

@[simp] theorem storeBlk_h : (storeBlk j v s).h = s.h := rfl
@[simp] theorem storeBlk_hw : (storeBlk j v s).hw = s.hw := rfl
@[simp] theorem storeBlk_wv : (storeBlk j v s).wv = s.wv := rfl
@[simp] theorem storeBlk_w : (storeBlk j v s).w = s.w := rfl
@[simp] theorem storeBlk_blk : (storeBlk j v s).blk = s.blk.set j v := rfl
@[simp] theorem storeBlk_blkw : (storeBlk j v s).blkw = s.blkw.set j true := rfl
@[simp] theorem storeBlk_hex : (storeBlk j v s).hex = s.hex := rfl
@[simp] theorem storeBlk_busy : (storeBlk j v s).busy = s.busy := rfl
@[simp] theorem storeBlk_active : (storeBlk j v s).active = s.active := rfl
@[simp] theorem storeBlk_done : (storeBlk j v s).done = s.done := rfl
@[simp] theorem storeBlk_err : (storeBlk j v s).err = s.err := rfl
@[simp] theorem storeBlk_errcode : (storeBlk j v s).errcode = s.errcode := rfl
@[simp] theorem storeBlk_total : (storeBlk j v s).total = s.total := rfl
@[simp] theorem storeBlk_pend : (storeBlk j v s).pend = s.pend := rfl
@[simp] theorem storeBlk_rst : (storeBlk j v s).rst = s.rst := rfl
@[simp] theorem storeBlk_prog : (storeBlk j v s).prog = s.prog := rfl
@[simp] theorem storeBlk_hpc : (storeBlk j v s).hpc = s.hpc := rfl
@[simp] theorem storeBlk_vars : (storeBlk j v s).vars = s.vars := rfl
@[simp] theorem storeBlk_schedule : (storeBlk j v s).schedule = s.schedule := rfl
@[simp] theorem storeBlk_drawCount : (storeBlk j v s).drawCount = s.drawCount := rfl

end storeBlk

/-! ## nextStmt -/

section nextStmt
variable (s : State)

@[simp] theorem nextStmt_h : (nextStmt s).h = s.h := rfl
@[simp] theorem nextStmt_hw : (nextStmt s).hw = s.hw := rfl
@[simp] theorem nextStmt_wv : (nextStmt s).wv = s.wv := rfl
@[simp] theorem nextStmt_w : (nextStmt s).w = s.w := rfl
@[simp] theorem nextStmt_blk : (nextStmt s).blk = s.blk := rfl
@[simp] theorem nextStmt_blkw : (nextStmt s).blkw = s.blkw := rfl
@[simp] theorem nextStmt_hex : (nextStmt s).hex = s.hex := rfl
@[simp] theorem nextStmt_busy : (nextStmt s).busy = s.busy := rfl
@[simp] theorem nextStmt_active : (nextStmt s).active = s.active := rfl
@[simp] theorem nextStmt_done : (nextStmt s).done = s.done := rfl
@[simp] theorem nextStmt_err : (nextStmt s).err = s.err := rfl
@[simp] theorem nextStmt_errcode : (nextStmt s).errcode = s.errcode := rfl
@[simp] theorem nextStmt_total : (nextStmt s).total = s.total := rfl
@[simp] theorem nextStmt_pend : (nextStmt s).pend = s.pend := rfl
@[simp] theorem nextStmt_rst : (nextStmt s).rst = s.rst := rfl
@[simp] theorem nextStmt_prog : (nextStmt s).prog = s.prog := rfl
@[simp] theorem nextStmt_hpc : (nextStmt s).hpc = s.hpc + 1 := rfl
@[simp] theorem nextStmt_vars : (nextStmt s).vars = s.vars := rfl
@[simp] theorem nextStmt_schedule : (nextStmt s).schedule = s.schedule := rfl
@[simp] theorem nextStmt_drawCount : (nextStmt s).drawCount = s.drawCount := rfl

end nextStmt

/-! ## jumpTo -/

section jumpTo
variable (p : Nat) (s : State)

@[simp] theorem jumpTo_h : (jumpTo p s).h = s.h := rfl
@[simp] theorem jumpTo_hw : (jumpTo p s).hw = s.hw := rfl
@[simp] theorem jumpTo_wv : (jumpTo p s).wv = s.wv := rfl
@[simp] theorem jumpTo_w : (jumpTo p s).w = s.w := rfl
@[simp] theorem jumpTo_blk : (jumpTo p s).blk = s.blk := rfl
@[simp] theorem jumpTo_blkw : (jumpTo p s).blkw = s.blkw := rfl
@[simp] theorem jumpTo_hex : (jumpTo p s).hex = s.hex := rfl
@[simp] theorem jumpTo_busy : (jumpTo p s).busy = s.busy := rfl
@[simp] theorem jumpTo_active : (jumpTo p s).active = s.active := rfl
@[simp] theorem jumpTo_done : (jumpTo p s).done = s.done := rfl
@[simp] theorem jumpTo_err : (jumpTo p s).err = s.err := rfl
@[simp] theorem jumpTo_errcode : (jumpTo p s).errcode = s.errcode := rfl
@[simp] theorem jumpTo_total : (jumpTo p s).total = s.total := rfl
@[simp] theorem jumpTo_pend : (jumpTo p s).pend = s.pend := rfl
@[simp] theorem jumpTo_rst : (jumpTo p s).rst = s.rst := rfl
@[simp] theorem jumpTo_prog : (jumpTo p s).prog = s.prog := rfl
@[simp] theorem jumpTo_hpc : (jumpTo p s).hpc = p := rfl
@[simp] theorem jumpTo_vars : (jumpTo p s).vars = s.vars := rfl
@[simp] theorem jumpTo_schedule : (jumpTo p s).schedule = s.schedule := rfl
@[simp] theorem jumpTo_drawCount : (jumpTo p s).drawCount = s.drawCount := rfl

end jumpTo

/-! ## setVar -/

section setVar
variable (k : Fin 16) (v : Word) (s : State)

@[simp] theorem setVar_h : (setVar k v s).h = s.h := rfl
@[simp] theorem setVar_hw : (setVar k v s).hw = s.hw := rfl
@[simp] theorem setVar_wv : (setVar k v s).wv = s.wv := rfl
@[simp] theorem setVar_w : (setVar k v s).w = s.w := rfl
@[simp] theorem setVar_blk : (setVar k v s).blk = s.blk := rfl
@[simp] theorem setVar_blkw : (setVar k v s).blkw = s.blkw := rfl
@[simp] theorem setVar_hex : (setVar k v s).hex = s.hex := rfl
@[simp] theorem setVar_busy : (setVar k v s).busy = s.busy := rfl
@[simp] theorem setVar_active : (setVar k v s).active = s.active := rfl
@[simp] theorem setVar_done : (setVar k v s).done = s.done := rfl
@[simp] theorem setVar_err : (setVar k v s).err = s.err := rfl
@[simp] theorem setVar_errcode : (setVar k v s).errcode = s.errcode := rfl
@[simp] theorem setVar_total : (setVar k v s).total = s.total := rfl
@[simp] theorem setVar_pend : (setVar k v s).pend = s.pend := rfl
@[simp] theorem setVar_rst : (setVar k v s).rst = s.rst := rfl
@[simp] theorem setVar_prog : (setVar k v s).prog = s.prog := rfl
@[simp] theorem setVar_hpc : (setVar k v s).hpc = s.hpc := rfl
@[simp] theorem setVar_vars : (setVar k v s).vars = s.vars.set k v := rfl
@[simp] theorem setVar_schedule : (setVar k v s).schedule = s.schedule := rfl
@[simp] theorem setVar_drawCount : (setVar k v s).drawCount = s.drawCount := rfl

end setVar

/-! ## popMove -/

section popMove
variable (s : State)

@[simp] theorem popMove_h : (popMove s).h = s.h := rfl
@[simp] theorem popMove_hw : (popMove s).hw = s.hw := rfl
@[simp] theorem popMove_wv : (popMove s).wv = s.wv := rfl
@[simp] theorem popMove_w : (popMove s).w = s.w := rfl
@[simp] theorem popMove_blk : (popMove s).blk = s.blk := rfl
@[simp] theorem popMove_blkw : (popMove s).blkw = s.blkw := rfl
@[simp] theorem popMove_hex : (popMove s).hex = s.hex := rfl
@[simp] theorem popMove_busy : (popMove s).busy = s.busy := rfl
@[simp] theorem popMove_active : (popMove s).active = s.active := rfl
@[simp] theorem popMove_done : (popMove s).done = s.done := rfl
@[simp] theorem popMove_err : (popMove s).err = s.err := rfl
@[simp] theorem popMove_errcode : (popMove s).errcode = s.errcode := rfl
@[simp] theorem popMove_total : (popMove s).total = s.total := rfl
@[simp] theorem popMove_pend : (popMove s).pend = s.pend := rfl
@[simp] theorem popMove_rst : (popMove s).rst = s.rst := rfl
@[simp] theorem popMove_prog : (popMove s).prog = s.prog := rfl
@[simp] theorem popMove_hpc : (popMove s).hpc = s.hpc := rfl
@[simp] theorem popMove_vars : (popMove s).vars = s.vars := rfl
@[simp] theorem popMove_schedule : (popMove s).schedule = s.schedule.tail := rfl
@[simp] theorem popMove_drawCount : (popMove s).drawCount = s.drawCount := rfl

end popMove

/-! ## resetCore -/

section resetCore
variable (s : State)

@[simp] theorem resetCore_h : (resetCore s).h = State.reset.h := rfl
@[simp] theorem resetCore_hw : (resetCore s).hw = State.reset.hw := rfl
@[simp] theorem resetCore_wv : (resetCore s).wv = State.reset.wv := rfl
@[simp] theorem resetCore_w : (resetCore s).w = State.reset.w := rfl
@[simp] theorem resetCore_blk : (resetCore s).blk = State.reset.blk := rfl
@[simp] theorem resetCore_blkw : (resetCore s).blkw = State.reset.blkw := rfl
@[simp] theorem resetCore_hex : (resetCore s).hex = State.reset.hex := rfl
@[simp] theorem resetCore_busy : (resetCore s).busy = State.reset.busy := rfl
@[simp] theorem resetCore_active : (resetCore s).active = State.reset.active := rfl
@[simp] theorem resetCore_done : (resetCore s).done = State.reset.done := rfl
@[simp] theorem resetCore_err : (resetCore s).err = State.reset.err := rfl
@[simp] theorem resetCore_errcode : (resetCore s).errcode = State.reset.errcode := rfl
@[simp] theorem resetCore_total : (resetCore s).total = State.reset.total := rfl
@[simp] theorem resetCore_pend : (resetCore s).pend = State.reset.pend := rfl
@[simp] theorem resetCore_rst : (resetCore s).rst = s.rst := rfl
@[simp] theorem resetCore_prog : (resetCore s).prog = s.prog := rfl
@[simp] theorem resetCore_hpc : (resetCore s).hpc = s.hpc := rfl
@[simp] theorem resetCore_vars : (resetCore s).vars = s.vars := rfl
@[simp] theorem resetCore_schedule : (resetCore s).schedule = s.schedule := rfl
@[simp] theorem resetCore_drawCount : (resetCore s).drawCount = s.drawCount := rfl

end resetCore

/-! ## setRst -/

section setRst
variable (s : State)

theorem setRst_true : setRst true s = { resetCore s with rst := true } := rfl
theorem setRst_false : setRst false s = { s with rst := false } := rfl
@[simp] theorem setRst_true_h : (setRst true s).h = State.reset.h := rfl
@[simp] theorem setRst_false_h : (setRst false s).h = s.h := rfl
@[simp] theorem setRst_true_hw : (setRst true s).hw = State.reset.hw := rfl
@[simp] theorem setRst_false_hw : (setRst false s).hw = s.hw := rfl
@[simp] theorem setRst_true_wv : (setRst true s).wv = State.reset.wv := rfl
@[simp] theorem setRst_false_wv : (setRst false s).wv = s.wv := rfl
@[simp] theorem setRst_true_w : (setRst true s).w = State.reset.w := rfl
@[simp] theorem setRst_false_w : (setRst false s).w = s.w := rfl
@[simp] theorem setRst_true_blk : (setRst true s).blk = State.reset.blk := rfl
@[simp] theorem setRst_false_blk : (setRst false s).blk = s.blk := rfl
@[simp] theorem setRst_true_blkw : (setRst true s).blkw = State.reset.blkw := rfl
@[simp] theorem setRst_false_blkw : (setRst false s).blkw = s.blkw := rfl
@[simp] theorem setRst_true_hex : (setRst true s).hex = State.reset.hex := rfl
@[simp] theorem setRst_false_hex : (setRst false s).hex = s.hex := rfl
@[simp] theorem setRst_true_busy : (setRst true s).busy = State.reset.busy := rfl
@[simp] theorem setRst_false_busy : (setRst false s).busy = s.busy := rfl
@[simp] theorem setRst_true_active : (setRst true s).active = State.reset.active := rfl
@[simp] theorem setRst_false_active : (setRst false s).active = s.active := rfl
@[simp] theorem setRst_true_done : (setRst true s).done = State.reset.done := rfl
@[simp] theorem setRst_false_done : (setRst false s).done = s.done := rfl
@[simp] theorem setRst_true_err : (setRst true s).err = State.reset.err := rfl
@[simp] theorem setRst_false_err : (setRst false s).err = s.err := rfl
@[simp] theorem setRst_true_errcode : (setRst true s).errcode = State.reset.errcode := rfl
@[simp] theorem setRst_false_errcode : (setRst false s).errcode = s.errcode := rfl
@[simp] theorem setRst_true_total : (setRst true s).total = State.reset.total := rfl
@[simp] theorem setRst_false_total : (setRst false s).total = s.total := rfl
@[simp] theorem setRst_true_pend : (setRst true s).pend = State.reset.pend := rfl
@[simp] theorem setRst_false_pend : (setRst false s).pend = s.pend := rfl
@[simp] theorem setRst_true_rst : (setRst true s).rst = true := rfl
@[simp] theorem setRst_false_rst : (setRst false s).rst = false := rfl
@[simp] theorem setRst_true_prog : (setRst true s).prog = s.prog := rfl
@[simp] theorem setRst_false_prog : (setRst false s).prog = s.prog := rfl
@[simp] theorem setRst_true_hpc : (setRst true s).hpc = s.hpc := rfl
@[simp] theorem setRst_false_hpc : (setRst false s).hpc = s.hpc := rfl
@[simp] theorem setRst_true_vars : (setRst true s).vars = s.vars := rfl
@[simp] theorem setRst_false_vars : (setRst false s).vars = s.vars := rfl
@[simp] theorem setRst_true_schedule : (setRst true s).schedule = s.schedule := rfl
@[simp] theorem setRst_false_schedule : (setRst false s).schedule = s.schedule := rfl
@[simp] theorem setRst_true_drawCount : (setRst true s).drawCount = s.drawCount := rfl
@[simp] theorem setRst_false_drawCount : (setRst false s).drawCount = s.drawCount := rfl

end setRst

end Sys2Proof.Machine
end

