-- ==== Sys2Proof/Laws/Commands.lean ====
section
/-! SUPPORT. One lemma per shared operation of the commands, the bus and the step: everything it can do, so that later
proofs cite it instead of unfolding. -/

namespace Sys2Proof.Machine

@[simp] theorem andThen_next (s : State) (f : State → Outcome) : andThen (.next s) f = f s := rfl

/-! ## Errors -/

theorem raiseErr_of_err (k : ErrKind) (s : State) (h : s.err = true) : raiseErr k s = s := by simp [raiseErr, h]

theorem raiseErr_of_not_err (k : ErrKind) (s : State) (h : s.err = false) :
    raiseErr k s = { s with err := true, errcode := k.code } := by simp [raiseErr, h]

theorem ErrKind.code_range (k : ErrKind) : 1 ≤ k.code.toNat ∧ k.code.toNat ≤ 4 := by cases k <;> decide

/-! ## The engine's datapath -/

/-- Compressing a list of blocks writes H, W and a..h only, and H as the compressor says. -/
theorem foldl_engineCompress (Bs : List (List Byte)) (s : State) :
    ∃ w wv, Bs.foldl engineCompress s = { s with h := Bs.foldl compressBlock s.h, w := w, wv := wv } := by
  induction Bs generalizing s with
  | nil => exact ⟨s.w, s.wv, rfl⟩
  | cons B Bs ih =>
    obtain ⟨w, wv, h⟩ := ih (engineCompress s B)
    refine ⟨w, wv, ?_⟩
    rw [List.foldl_cons, h]
    apply State.ext <;> simp

/-- Everything complete(BLOCK) does. -/
theorem completeBlock_eq (s : State) :
    ∃ w wv, completeBlock s = { s with
      h := compressBlock s.h (blockBytes s), total := BitVec.ofNat 64 (s.total.toNat + 64), w := w, wv := wv
      drawCount := s.drawCount + 16 } :=
  ⟨(engineCompress (useDraws 16 s) (blockBytes s)).w, (engineCompress (useDraws 16 s) (blockBytes s)).wv, by
    apply State.ext <;> simp [completeBlock]⟩

/-- Everything complete(FINAL N) does. -/
theorem completeFinal_eq (n : Nat) (s : State) :
    ∃ w wv, completeFinal n s = { s with
      h := (finalBlocks n s).foldl compressBlock s.h, hex := hexWords ((finalBlocks n s).foldl compressBlock s.h)
      total := BitVec.ofNat 64 (s.total.toNat + n), done := true, active := false, w := w, wv := wv
      drawCount := s.drawCount + wordsFor n } := by
  obtain ⟨w, wv, h⟩ := foldl_engineCompress (finalBlocks n s) (useDraws (wordsFor n) s)
  refine ⟨w, wv, ?_⟩
  unfold completeFinal
  rw [h]
  apply State.ext <;> simp

/-! ## The operands -/

@[simp] theorem blockWords_length (s : State) : (blockWords s).length = 16 := List.length_ofFn

theorem blockWords_getElem (s : State) (j : Nat) (h : j < (blockWords s).length) :
    (blockWords s)[j] = blockWord s ⟨j, by simpa using h⟩ := List.getElem_ofFn h

@[simp] theorem blockBytes_length (s : State) : (blockBytes s).length = 64 := by simp [blockBytes]

/-- The tail is the beginning of the block, whichever words are not read. -/
theorem tailBytes_eq_take (n : Nat) (s : State) : tailBytes n s = (blockBytes s).take n := by
  unfold tailBytes blockBytes
  conv_rhs => rw [← List.take_append_drop (wordsFor n) (blockWords s), List.flatMap_append]
  by_cases h : n ≤ 64
  · rw [List.take_append_of_le_length (by rw [flatMap_be32bytes_length]; simp [wordsFor]; omega)]
  · rw [List.drop_eq_nil_of_le (by simp [wordsFor]; omega), List.flatMap_nil, List.append_nil]

theorem tailBytes_length (n : Nat) (s : State) (h : n ≤ 63) : (tailBytes n s).length = n := by
  simp [tailBytes_eq_take]; omega

/-- A word the host has written is read as it stands. -/
theorem blockWord_written (s : State) (j : Fin 16) (h : s.blkw[j] = true) : blockWord s j = s.blk[j] := if_pos h

/-! ## The two parts of a command -/

/-- The completion part of a command's meaning (R172). -/
theorem commandStep_pending {i : Instr} {s : State} (f g : State → State) (h : s.pend = some i) :
    commandStep i f g s = .next (finish (g s)) := by simp [commandStep, h]

/-- The submission part of a command's meaning (R171). -/
theorem commandStep_other {i : Instr} {s : State} (f g : State → State) (h : s.pend ≠ some i) :
    commandStep i f g s = .next (f s) := by simp [commandStep, h]

/-- What a submission can do: record one error, or latch the command, after the acceptance effects of INIT. -/
inductive Submitted (i : Instr) (s t : State) : Prop where
  | rejected (k : ErrKind) (h : t = raiseErr k s)
  | started (h : t = latch .init (openComputation (clearErr s))) (idle : s.busy = false) (hi : i = .init)
  | latched (h : t = latch i s) (idle : s.busy = false) (hi : i ≠ .init) (act : s.active = true)
      (room : ∀ k, (i = .block ∧ k = 64 ∨ i = .final k) → s.total.toNat + k ≤ maxMsgBytes)

/-- What a command does as a function: the state it answers. -/
def execState : Instr → State → State
  | .init, s => if s.pend = some .init then finish (completeInit s) else submitInit s
  | .block, s => if s.pend = some .block then finish (completeBlock s) else submitBlock s
  | .final n, s => if s.pend = some (.final n) then finish (completeFinal n s) else submitFinal n s

/-- A command always answers a next state. -/
theorem exec_eq (i : Instr) (s : State) : exec i s = .next (execState i s) := by cases i <;> rfl

/-- Every submission is one of the three of `Submitted`. -/
theorem submitted (i : Instr) (s : State) (h : s.pend ≠ some i) : Submitted i s (execState i s) := by
  cases i with
  | init =>
    simp only [execState, h, if_false, submitInit]
    split
    · exact .rejected _ rfl
    · exact .started rfl (by simp_all) rfl
  | block =>
    simp only [execState, h, if_false, submitBlock]
    split_ifs with h1 h2 h3
    · exact .rejected _ rfl
    · exact .rejected _ rfl
    · exact .rejected _ rfl
    · refine .latched rfl (by simp_all) (by simp) (by simp_all) ?_
      rintro k (⟨-, rfl⟩ | hk)
      · omega
      · cases hk
  | final n =>
    simp only [execState, h, if_false, submitFinal]
    split_ifs with h1 h2 h3
    · exact .rejected _ rfl
    · exact .rejected _ rfl
    · exact .rejected _ rfl
    · refine .latched rfl (by simp_all) (by simp) (by simp_all) ?_
      rintro k (⟨hk, -⟩ | hk)
      · cases hk
      · cases hk; omega

/-! ## The moves -/

/-- What a host move can do. -/
inductive HostMoved (s : State) : Outcome → Prop where
  | idle : HostMoved s (.next s)
  | refused (a : BusAccess) (r : Refusal) (h : accessRefusal a = some r)
      (st : (∃ v, s.prog[s.hpc]? = some (.wr a v)) ∨ ∃ k, s.prog[s.hpc]? = some (.rd k a)) : HostMoved s (.refused r)
  | wrote (a : BusAccess) (v : Word) (h : accessRefusal a = none) (st : s.prog[s.hpc]? = some (.wr a v)) :
      HostMoved s (busWrite (regAt a.off) v (nextStmt s))
  | read (k : Fin 16) (a : BusAccess) (h : accessRefusal a = none) (st : s.prog[s.hpc]? = some (.rd k a)) :
      HostMoved s (.next (nextStmt (setVar k (busRead (regAt a.off) s).1 (busRead (regAt a.off) s).2)))
  | branched (k : Fin 16) (mask : Word) (p : Nat) (st : s.prog[s.hpc]? = some (.bnz k mask p)) :
      HostMoved s (.next (if s.vars[k] &&& mask ≠ 0 then jumpTo p s else nextStmt s))

theorem hostMoved (s : State) : HostMoved s (hostMove s) := by
  unfold hostMove
  cases hst : s.prog[s.hpc]? with
  | none => exact .idle
  | some st =>
    cases st with
    | wr a v =>
      cases ha : accessRefusal a with
      | none => simpa [runStmt, ha] using HostMoved.wrote a v ha hst
      | some r => simpa [runStmt, ha] using HostMoved.refused a r ha (.inl ⟨v, hst⟩)
    | rd k a =>
      cases ha : accessRefusal a with
      | none => simpa [runStmt, ha] using HostMoved.read k a ha hst
      | some r => simpa [runStmt, ha] using HostMoved.refused a r ha (.inr ⟨k, hst⟩)
    | bnz k mask p => exact .branched k mask p hst
    | halt => exact .idle

/-- What a read leaves: the core as it was, and the draw counter advanced at most. -/
theorem busRead_state (r : Reg) (s : State) : ∃ d, (busRead r s).2 = { s with drawCount := d } := by
  unfold busRead
  cases readExact r s with
  | some v => exact ⟨s.drawCount, rfl⟩
  | none => exact ⟨s.drawCount + 1, rfl⟩

/-- What a bus write can do: nothing, record an error, store a BLK word, or run a command. -/
inductive Wrote (r : Reg) (v : Word) (s : State) : Outcome → Prop where
  | nothing (h : s.rst = true ∨ (r ≠ .cmd ∧ ∀ j, r ≠ .blk j)) : Wrote r v s (.next s)
  | raised (k : ErrKind) (up : s.rst = false) (h : r = .cmd ∨ ∃ j, r = .blk j) : Wrote r v s (.next (raiseErr k s))
  | stored (j : Fin 16) (h : r = .blk j) (up : s.rst = false) (idle : s.busy = false) : Wrote r v s (.next (storeBlk j v s))
  | ran (i : Instr) (h : r = .cmd) (up : s.rst = false) (idle : s.busy = false) (dec : decode v = .ok i) :
      Wrote r v s (exec i s)

theorem wrote (r : Reg) (v : Word) (s : State) : Wrote r v s (busWrite r v s) := by
  unfold busWrite
  split_ifs with hr
  · exact .nothing (.inl hr)
  · have up : s.rst = false := by simpa using hr
    cases r with
    | cmd =>
      simp only [cmdWrite]
      split_ifs with hb
      · exact .raised _ up (.inl rfl)
      · cases hd : decode v with
        | error e => exact .raised _ up (.inl rfl)
        | ok i => exact .ran i rfl up (by simpa using hb) hd
    | blk j =>
      simp only [blkWrite]
      split_ifs with hb
      · exact .raised _ up (.inr ⟨j, rfl⟩)
      · exact .stored j rfl up (by simpa using hb)
    | status => exact .nothing (.inr ⟨nofun, nofun⟩)
    | totalLo => exact .nothing (.inr ⟨nofun, nofun⟩)
    | totalHi => exact .nothing (.inr ⟨nofun, nofun⟩)
    | h i => exact .nothing (.inr ⟨nofun, nofun⟩)
    | hex j => exact .nothing (.inr ⟨nofun, nofun⟩)
    | reserved off => exact .nothing (.inr ⟨nofun, nofun⟩)

/-- What the engine's move can do: nothing, or run the pending command. -/
theorem engineMove_cases (s : State) :
    (engineMove s = .next s ∧ (s.rst = true ∨ s.pend = none)) ∨
    ∃ i, s.rst = false ∧ s.pend = some i ∧ engineMove s = exec i s := by
  unfold engineMove
  split_ifs with hr
  · exact .inl ⟨rfl, .inl hr⟩
  · cases hp : s.pend with
    | none => exact .inl ⟨rfl, .inr rfl⟩
    | some i => exact .inr ⟨i, by simpa using hr, rfl, rfl⟩

/-! ## The register map -/

theorem regAt_eq_cmd {off : Nat} : regAt off = .cmd ↔ off = 0 := by
  unfold regAt
  split_ifs <;> simp_all

theorem regAt_eq_blk {off : Nat} {j : Fin 16} (h4 : off % 4 = 0) : regAt off = .blk j ↔ off = 0x040 + 4 * j.val := by
  unfold regAt
  split_ifs <;> simp_all [Fin.ext_iff]
  all_goals omega

/-- Which accesses are inside the interface. -/
theorem accessRefusal_eq_none {a : BusAccess} :
    accessRefusal a = none ↔ a.width = .word ∧ a.burst = false ∧ a.off % 4 = 0 ∧ a.off < 0x100 := by
  unfold accessRefusal
  split_ifs <;> simp_all

theorem accessRefusal_none {a : BusAccess} (h : accessRefusal a = none) : a.off % 4 = 0 ∧ a.off < 0x100 :=
  (accessRefusal_eq_none.1 h).2.2

/-- A bus write always answers a next state. -/
theorem busWrite_next (r : Reg) (v : Word) (s : State) : ∃ t, busWrite r v s = .next t := by
  have h := wrote r v s
  generalize busWrite r v s = o at h
  cases h <;> first | exact ⟨_, rfl⟩ | exact ⟨_, exec_eq _ _⟩

end Sys2Proof.Machine
end

