-- ==== Sys2Proof/Laws/PerInstr.lean ====
section
/-! SUPPORT. Facts stated of every command as syntax, one lemma per constructor. -/

namespace Sys2Proof.Laws.MatchMask

/-- The word of a well-formed command agrees with the `match` column under the `mask` column of its row (R74). -/
def Statement (i : Instr) : Prop := i.wf = true → encode i &&& i.maskBits = i.matchBits

theorem init : Statement .init := fun _ => by decide

theorem block : Statement .block := fun _ => by decide

theorem final (n : Nat) : Statement (.final n) := by
  intro h
  have h63 : n < 64 := by simp [Instr.wf] at h; omega
  have all : ∀ k : Fin 64, encode (.final k.val) &&& 0xFFFFC0FF = 0x00000003 := by decide +kernel
  exact all ⟨n, h63⟩

end Sys2Proof.Laws.MatchMask
end

