-- ==== Sys2Proof/Tests/Slice0.lean ====
section
/-! SUPPORT. The model's own tests, and one witness for every statement with hypotheses. Expected values come from the
worked examples of the rules and from 95_test_vectors.md. -/

namespace Sys2Proof.Tests

open Sys2Proof Sys2Proof.Machine

/-! ## Well-formedness and decoding, from words written out from the format of R70 -/

theorem test_wf_takes_final_63 : (Instr.final 63).wf = true := by decide

theorem test_wf_refuses_final_64 : (Instr.final 64).wf = false := by decide

/-- RSV, N, OP = 0x01. -/
theorem test_decode_init :
    decode (0b000000000000000000#18 ++ 0b000000#6 ++ 0b00000001#8) = .ok .init := by decide

/-- RSV, N, OP = 0x02. -/
theorem test_decode_block :
    decode (0b000000000000000000#18 ++ 0b000000#6 ++ 0b00000010#8) = .ok .block := by decide

/-- RSV, N = 55, OP = 0x03. -/
theorem test_decode_final_55 :
    decode (0b000000000000000000#18 ++ 0b110111#6 ++ 0b00000011#8) = .ok (.final 55) := by decide

/-- An operand of INIT (R75), the lowest bit of RSV (R73), an unknown OP (R76). -/
theorem test_decode_illegal :
    decode (0b000000000000000000#18 ++ 0b000001#6 ++ 0b00000001#8) = .error .operandSet ∧
    decode (0b000000000000000001#18 ++ 0b000000#6 ++ 0b00000011#8) = .error .reservedSet ∧
    decode (0b000000000000000000#18 ++ 0b000000#6 ++ 0b00000100#8) = .error .unknownOp := by decide

theorem test_decode_table_word :
    decodeTableWord 32 0x00000001 = some .init ∧ decodeTableWord 32 0x00003F03 = some (.final 63) ∧
    decodeTableWord 8 0x03 = some (.final 0) ∧ decodeTableWord 32 0x00000103 = some (.final 1) ∧
    decodeTableWord 32 0x00000102 = none := by decide

/-! ## States -/

/-- A computation is open, with nothing pending and `t` bytes absorbed. -/
def opened (t : DWord) : State := { State.reset with h := H0, hw := true, active := true, total := t }

/-- A command is pending, and BLK is written in full with the word `v`. -/
def running (i : Instr) (v : Word) : State :=
  { opened 0 with pend := some i, busy := true, blk := Vector.replicate 16 v, blkw := Vector.replicate 16 true }

/-- A digest is published. -/
def finished : State := { State.reset with h := H0, hw := true, hex := hexWords H0, done := true }

/-- ERR is set, with code ILLEGAL. -/
def erring : State := { opened 0 with err := true, errcode := 1 }

/-- It is the host's turn, at the statement `st`. -/
def atStmt (st : HostStmt) (s : State) : State := { s with prog := [st], hpc := 0, schedule := [.host] }

/-- Something holds of the next state. -/
def andThenHolds (o : Outcome) (p : State → Bool) : Bool :=
  match o with
  | .next t => p t
  | .fault _ => false
  | .refused _ => false

/-- The outcome is this next state. -/
def answers (o : Outcome) (t : State) : Bool :=
  match o with
  | .next u => u == t
  | .fault _ => false
  | .refused _ => false

theorem of_answers {o : Outcome} {t : State} (h : answers o t = true) : o = .next t := by
  cases o with
  | next u => exact congrArg _ (by simpa [answers] using h)
  | fault f => exact nomatch f
  | refused x => cases h

theorem opened_inv (t : DWord) (h : t.toNat % 64 = 0 ∧ t.toNat ≤ 2 ^ 61 - 64) : (opened t).Inv where
  busy_pend := rfl
  pend_ok := nofun
  active_hw := fun _ _ => rfl
  active_total := fun _ => h
  total_le := by have : (opened t).total = t := rfl; rw [this]; unfold maxMsgBytes; omega
  done_idle := nofun
  done_hex := nofun
  err_clear := fun _ => rfl
  err_set := nofun
  rst_idle := nofun

theorem running_total (i : Instr) (v : Word) : (running i v).total = 0 := rfl

theorem running_inv (i : Instr) (v : Word) (h : i.wf = true) : (running i v).Inv where
  busy_pend := rfl
  pend_ok := by
    intro j hj
    cases hj
    cases i with
    | init => exact ⟨rfl, rfl⟩
    | block => exact ⟨rfl, rfl, by simp [running_total, maxMsgBytes]⟩
    | final n => exact ⟨by simpa [Instr.wf] using h, rfl, rfl⟩
  active_hw := nofun
  active_total := fun _ => by simp [running_total]
  total_le := by simp [running_total]
  done_idle := nofun
  done_hex := nofun
  err_clear := fun _ => rfl
  err_set := nofun
  rst_idle := nofun

theorem finished_inv : finished.Inv where
  busy_pend := rfl
  pend_ok := nofun
  active_hw := nofun
  active_total := nofun
  total_le := by decide
  done_idle := fun _ => ⟨rfl, rfl⟩
  done_hex := fun _ => ⟨rfl, rfl⟩
  err_clear := fun _ => rfl
  err_set := nofun
  rst_idle := nofun

/-! ## One step of each command -/

/-- E5: STATUS = 00000003 after the acceptance. -/
theorem test_init_accepted :
    andThenHolds (exec .init State.reset) (fun t => statusWord t == 0x00000003 && t.total == 0) = true := by
  decide +kernel

/-- E5 and R173: STATUS = 00000002 after the completion, H as listed there. -/
theorem test_init_completed :
    andThenHolds (exec .init (running .init 0)) (fun t => statusWord t == 0x00000002 &&
      t.h == #v[0x6a09e667, 0xbb67ae85, 0x3c6ef372, 0xa54ff53a, 0x510e527f, 0x9b05688c, 0x1f83d9ab, 0x5be0cd19]) = true := by
  decide +kernel

/-- E8: a BLOCK at TOTAL = 2^61 - 64 is rejected with LEN, STATUS = 0000004a. -/
theorem test_block_len :
    andThenHolds (exec .block (opened 0x1fffffffffffffc0)) (fun t => statusWord t == 0x0000004a &&
      t.total == 0x1fffffffffffffc0 && t.pend == none) = true := by
  decide +kernel

/-- R174: the chaining value after "a" × 64. -/
theorem test_block_completed :
    andThenHolds (exec .block (running .block 0x61616161)) (fun t => t.total == 64 &&
      t.h == #v[0xdf5bb81c, 0xe81e0626, 0xfb45a894, 0x4fd40f31, 0xb25e6816, 0xd6d499c1, 0xab904929, 0x00635e66]) = true := by
  decide +kernel

/-- E3: FINAL 0 from reset is rejected with SEQ, STATUS = 00000038. -/
theorem test_final_seq :
    andThenHolds (exec (.final 0) State.reset) (fun t => statusWord t == 0x00000038) = true := by
  decide +kernel

/-- E20 and R175: FINAL 3 with junk in byte 3 gives the digest of "abc". -/
theorem test_final_completed :
    andThenHolds (exec (.final 3) (running (.final 3) 0x616263ff)) (fun t => statusWord t == 0x00000004 &&
      t.total == 3 && t.hex[0] == 0x62613738 &&
      t.h == #v[0xba7816bf, 0x8f01cfea, 0x414140de, 0x5dae2223, 0xb00361a3, 0x96177a9c, 0xb410ff61, 0xf20015ad]) = true := by
  decide +kernel

/-! ## The constant tables -/

/-- The primes below 312. -/
def primes : List Nat :=
  (List.range 312).filter fun p => 2 ≤ p && (List.range p).all fun d => d < 2 || p % d != 0

/-- R141: K[t] is the first 32 bits of the fractional part of the cube root of the (t+1)-th prime. -/
theorem test_k_is_cube_roots :
    primes.length = 64 ∧ ∀ t : Fin 64, ∃ whole : Fin 7,
      let root := whole.val * 2 ^ 32 + K[t].toNat
      root ^ 3 ≤ primes.getD t.val 0 * 2 ^ 96 ∧ primes.getD t.val 0 * 2 ^ 96 < (root + 1) ^ 3 := by decide +kernel

/-- R142: H0[i] is the first 32 bits of the fractional part of the square root of the (i+1)-th prime. -/
theorem test_h0_is_square_roots :
    ∀ i : Fin 8, ∃ whole : Fin 5,
      let root := whole.val * 2 ^ 32 + H0[i].toNat
      root ^ 2 ≤ primes.getD i.val 0 * 2 ^ 64 ∧ primes.getD i.val 0 * 2 ^ 64 < (root + 1) ^ 2 := by decide +kernel

/-! ## The bus and the host notation -/

/-- E11: a BLK write in the BUSY window of an INIT, STATUS = 0000002b. -/
theorem test_blk_write_while_busy :
    andThenHolds (busWrite (.blk 0) 0x12345678 (running .init 0)) (fun t => statusWord t == 0x0000002b &&
      t.blk[0] == 0) = true := by
  decide +kernel

/-- E18: a write to H[0] is ignored. -/
theorem test_h_write_ignored : busWrite (.h 0) 7 (opened 0) = .next (opened 0) := rfl

/-- The command words of P1 in the written notation, with a label (R79, R80). -/
theorem test_written_program :
    assembleText "  INIT ; start\nw: RD r1, STATUS\n BNZ r1, 0x1, w\n FINAL 3\n HALT".toList =
      some [.wr { off := 0 } 0x00000001, .rd 1 { off := 4 }, .bnz 1 0x1 1, .wr { off := 0 } 0x00000303, .halt] := by
  decide +kernel

/-- R80: FINAL 64 is not a legal pseudo-instruction, and r15 is reserved (R79). -/
theorem test_assembler_rejects :
    assemble [.final 64] = none ∧ assemble [.rd 15 .status] = none ∧ assemble [.bnz 1 1 ['x']] = none := by
  decide +kernel

/-! ## The first command after reset -/

theorem test_first_step_init :
    andThenHolds (exec .init { State.reset with prog := [.wr { off := 0 } 0x00000001], hpc := 1 })
      (answers (step (State.reset.withFetchWord 32 0x00000001))) = true := by decide +kernel

theorem test_first_step_final :
    andThenHolds (exec (.final 63) { State.reset with prog := [.wr { off := 0 } 0x00003F03], hpc := 1 })
      (answers (step (State.reset.withFetchWord 32 0x00003F03))) = true := by decide +kernel

/-! ## Witnesses: encoding and datapath -/

theorem witness_DecodeOfEncode : (Instr.final 63).wf = true ∧ Instr.init.wf = true ∧ Instr.block.wf = true := by decide

theorem witness_EncodeOfDecode : decode 0x00003F03 = .ok (.final 63) := by decide

theorem witness_IllegalWordsAndTheirWrite :
    decode 0x00004003 = .error .reservedSet ∧ decode 0x00000102 = .error .operandSet ∧
    decode 0x00000004 = .error .unknownOp ∧ State.reset.busy = false ∧ State.reset.rst = false := by decide

theorem witness_RotrMovesBits : ((0 < 31 ∧ 31 < 32) ∧ (0 < 1 ∧ 1 < 32)) ∧ 31 < 32 := by decide

theorem witness_PadLengthCases : 55 % 64 ≤ 55 ∧ 57 ≤ 63 % 64 ∧ 57 ≤ 57 % 64 ∧ 56 % 64 = 56 := by decide

theorem witness_PaddedBlockCount : 55 < 64 ∧ 56 < 64 ∧ 63 < 64 := by decide

theorem witness_PaddingTouchesOnlyTail :
    (List.replicate 119 (0x61 : Byte)).length = 64 * 1 + 55 ∧ (List.replicate 56 (0x61 : Byte)).length = 64 * 0 + 56 ∧
    0 % 64 = 64 % 64 := by simp

theorem witness_LengthFieldIsExact : ([0x61, 0x62, 0x63] : List Byte).length ≤ maxMsgBytes := by decide

theorem witness_ScheduleFirstWords : (List.replicate 64 (0x61 : Byte)).length = 64 ∧ 0 < 16 ∧ 15 < 16 := by decide

theorem witness_ScheduleRecurrence : (16 ≤ 16 ∧ 16 < 64) ∧ 16 ≤ 63 ∧ 63 < 64 := by decide

theorem witness_RoundWritesVariables : 0 < 64 ∧ 63 < 64 := by decide

theorem witness_CompressionContinues :
    ([] : List Byte).length % 64 = 0 ∧ (List.replicate 128 (0x61 : Byte)).length % 64 = 0 := by simp

theorem witness_FinalizeIsBigEndian : 0 < 4 ∧ 3 < 4 := by decide

theorem witness_HexDigitsOfBytes : 1 < ([0x0A, 0xFF] : List Byte).length := by decide

theorem witness_DigestIsSixtyFourLowercase : 'a' ∈ sha256Hex [] := by decide +kernel

theorem witness_HexRegistersHoldDigits : (0x66 : Byte) ∈ (hexWords (Vector.replicate 8 0xFFFFFFFF)).toList.flatMap be32bytes := by
  decide +kernel

/-! ## Witnesses: commands -/

theorem witness_InitIsAccepted : State.reset.pend = none ∧ State.reset.busy = false := by decide

theorem witness_BlockIsAccepted :
    let s := opened 0x1fffffffffffff80
    s.pend = none ∧ s.busy = false ∧ s.active = true ∧ s.total.toNat + 64 ≤ 2 ^ 61 - 1 := by decide

theorem witness_FinalIsAccepted :
    let s := opened 0x1fffffffffffffc0
    s.Inv ∧ 63 ≤ 63 ∧ s.pend = none ∧ s.active = true :=
  ⟨opened_inv _ (by decide), by decide, rfl, rfl⟩

theorem witness_CmdWriteChecksInOrder :
    (State.reset.rst = false ∧ State.reset.busy = State.reset.pend.isSome) ∧
    (running .block 0).rst = false ∧ (running .block 0).busy = (running .block 0).pend.isSome := by decide

theorem witness_RejectedTransactionsChangeOnlyError :
    ((opened 0).Inv ∧ busWrite .cmd 0x00000101 (opened 0) = .next erring ∧ erring.pend = (opened 0).pend ∧
      busWrite .cmd 0x00000004 erring = .next erring ∧ erring.err = true) ∧
    (running .init 0).Inv ∧ (running .init 0).busy = true ∧
    busWrite (.blk 15) 7 (running .init 0) = .next { running .init 0 with err := true, errcode := 2 } :=
  ⟨⟨opened_inv 0 (by decide), of_answers (by decide +kernel), rfl, of_answers (by decide +kernel), rfl⟩,
    running_inv .init 0 rfl, rfl, of_answers (by decide +kernel)⟩

/-- The last two clauses: an error kept, an error recorded. -/
theorem witness_FirstErrorWins :
    State.reset.err = false ∧ erring.err = true ∧ andThenHolds (step erring) (fun t => t.err) = true ∧
    (let s := atStmt (.wr { off := 0x000 } 0x00000002) State.reset;
      s.err = false ∧ andThenHolds (step s) (fun t => t.err) = true) := by decide +kernel

/-- At the limit, and below it. -/
theorem witness_LengthLimitIsReachedOnlyByBlock :
    ((opened 0x1fffffffffffffc0).Inv ∧ (opened 0x1fffffffffffffc0).pend = none ∧
      (opened 0x1fffffffffffffc0).active = true ∧ (opened 0x1fffffffffffffc0).total.toNat = 2 ^ 61 - 64) ∧
    (opened 0x1fffffffffffff80).Inv ∧ (opened 0x1fffffffffffff80).pend = none ∧
    (opened 0x1fffffffffffff80).active = true ∧ (opened 0x1fffffffffffff80).total.toNat ≠ 2 ^ 61 - 64 ∧ 63 ≤ 63 :=
  ⟨⟨opened_inv _ (by decide), rfl, rfl, by decide⟩, opened_inv _ (by decide), rfl, rfl, by decide, by decide⟩

theorem witness_InitCompletes : (running .init 0).pend = some .init := rfl

theorem witness_BlockCompletes :
    (running .block 0).pend = some .block ∧ ∀ j : Fin 16, (running .block 0).blkw[j] = true := by decide

theorem witness_FinalCompletes :
    (running (.final 63) 0).Inv ∧ (running (.final 63) 0).pend = some (.final 63) ∧
    ∀ j : Fin 16, j.val < (63 + 3) / 4 → (running (.final 63) 0).blkw[j] = true :=
  ⟨running_inv _ _ rfl, rfl, by decide⟩

/-- Byte 3 of a word FINAL 3 reads in part, and a word it does not read. -/
theorem witness_FinalIgnoresBytesPastTail :
    let s := running (.final 3) 0x616263ff
    3 ≤ 63 ∧ s.pend = some (.final 3) ∧
    ((4 * (0 : Fin 16).val < 3 → s.blkw[(0 : Fin 16)] = true ∧
      ∀ k, 4 * (0 : Fin 16).val + k < 3 → k < 4 →
        (be32bytes 0x61626300).getD k 0 = (be32bytes s.blk[(0 : Fin 16)]).getD k 0) ∧
      ¬ 4 * (15 : Fin 16).val < 3) ∧
    ∃ t, exec (.final 3) s = .next t := by
  refine ⟨by decide, rfl, ⟨fun _ => ⟨by decide, ?_⟩, by decide⟩, _, exec_eq _ _⟩
  intro k hk _
  have h3 : k < 3 := by simpa using hk
  interval_cases k <;> decide

theorem witness_ProcedureEqualsOneCallHash :
    ([0x61, 0x62, 0x63] : List Byte).length ≤ maxMsgBytes ∧ State.reset.pend = none ∧ State.reset.busy = false ∧
    State.reset.rst = false := by decide

/-! ## Witnesses: the register window -/

theorem witness_RegisterMapIsRuleR54 :
    (0x010 % 4 = 0 ∧ 0x010 ≤ 0x010 ∧ 0x010 ≤ 0x03C) ∧ 0x0BC % 4 = 0 ∧ 0x0A0 ≤ 0x0BC ∧ 0x0BC ≤ 0x0BC := by decide

theorem witness_StatusReadsItsFields : State.reset.rst = false ∧ (running .block 0).rst = false := by decide

/-- The states of the clauses: BLK written, H written, HEX valid, TOTAL readable. -/
theorem witness_ReadsReturnTheRegister :
    ((running .block 0).rst = false ∧ (running .block 0).blkw[(15 : Fin 16)] = true) ∧
    ((opened 0).rst = false ∧ (opened 0).busy = false ∧ (opened 0).hw = true) ∧
    finished.rst = false ∧ finished.busy = false ∧ finished.done = true := by decide +kernel

theorem witness_OtherReadsAreDraws :
    ({ State.reset with rst := true } : State).rst = true ∧ State.reset.blkw[(15 : Fin 16)] = false ∧
    (running .block 0).busy = true ∧ State.reset.hw = false ∧ State.reset.done = false := by decide

theorem witness_OnlyCmdAndBlkWritesHaveEffect : Reg.status ≠ .cmd ∧ ∀ j, Reg.status ≠ .blk j := ⟨nofun, nofun⟩

theorem witness_ReservedSlotsReadZero :
    State.reset.rst = false ∧ (0x010 % 4 = 0 ∧ 0x010 ≤ 0x03C) ∧ (0x03C % 4 = 0 ∧ 0x010 ≤ 0x03C) ∧
    (0x0A0 % 4 = 0 ∧ 0x0A0 ≤ 0x0BC) ∧ 0x0BC % 4 = 0 := by decide

theorem witness_BlkWriteStoresOrIsDropped :
    ((running .init 0).rst = false ∧ (running .init 0).busy = true) ∧ State.reset.rst = false ∧
    State.reset.busy = false ∧ (15 : Fin 16) ≠ 0 := by decide

theorem witness_TotalTopBitsReadZero :
    (opened 0x1fffffffffffffc0).Inv ∧ (opened 0x1fffffffffffffc0).rst = false ∧
    (opened 0x1fffffffffffffc0).busy = false :=
  ⟨opened_inv _ (by decide), rfl, rfl⟩

/-! ## Witnesses: steps -/

theorem witness_StepRunsWrittenCommand :
    let s := State.reset.withFetchWord 32 0x00003F03
    moveOf s = .host ∧ s.prog[s.hpc]? = some (.wr { off := 0x000 } 0x00003F03) ∧
    s.rst = false ∧ s.busy = false ∧
    decode 0x00003F03 = .ok (.final 63) := by decide

theorem witness_StepRunsPendingCommand :
    moveOf (running .block 0) = .engine ∧ (running .block 0).rst = false ∧
    (running .block 0).pend = some .block := by decide

/-- The clauses in order, the accesses at the last offset of the window and at the last BLK word. -/
theorem witness_StepRunsHostStatements :
    (let a : BusAccess := { off := 0x07C }; let s := atStmt (.wr a 7) State.reset;
      moveOf s = .host ∧ s.prog[s.hpc]? = some (.wr a 7) ∧ a.width = .word ∧ a.burst = false ∧ a.off % 4 = 0 ∧
        a.off < 0x100) ∧
    (let a : BusAccess := { off := 0x0FC }; let s := atStmt (.rd 15 a) State.reset;
      moveOf s = .host ∧ s.prog[s.hpc]? = some (.rd 15 a) ∧ a.width = .word ∧ a.burst = false ∧ a.off % 4 = 0 ∧
        a.off < 0x100) ∧
    (let s := atStmt (.bnz 0 0x1 5) State.reset;
      moveOf s = .host ∧ s.prog[s.hpc]? = some (.bnz 0 0x1 5)) ∧
    (let s := atStmt .halt State.reset;
      moveOf s = .host ∧ s.prog[s.hpc]? = some .halt) ∧
    let s := { State.reset with schedule := [.engine] };
    moveOf s = .engine ∧ s.pend = none := by decide

/-- One access for each of the four grounds, at the boundary where there is one, and the last one that is not refused. -/
theorem witness_AccessesOutsideInterfaceRefused :
    let a0 : BusAccess := { off := 0x0FC }
    let a1 : BusAccess := { off := 0x040, width := .half }
    let a2 : BusAccess := { off := 0x0FF }
    let a3 : BusAccess := { off := 0x040, burst := true }
    let a4 : BusAccess := { off := 0x100 }
    (a1.width ≠ .word ∧ a2.off % 4 ≠ 0 ∧ a3.burst = true ∧ 0x100 ≤ a4.off) ∧
    ¬ (a0.width ≠ .word ∨ a0.off % 4 ≠ 0 ∨ a0.burst = true ∨ 0x100 ≤ a0.off) ∧
    moveOf (atStmt (.wr a1 7) State.reset) = .host ∧ moveOf (atStmt (.rd 0 a4) State.reset) = .host ∧
    (atStmt (.wr a1 7) State.reset).prog[(atStmt (.wr a1 7) State.reset).hpc]? = some (.wr a1 7) ∧
    (atStmt (.rd 0 a4) State.reset).prog[(atStmt (.rd 0 a4) State.reset).hpc]? = some (.rd 0 a4) := by decide

/-- The clauses: a line's expansion, a label after a WAIT, an assembled program with a line in it, a FINAL out of range,
a label found, and the lengths of LOADBLK and LOADTAIL. -/
theorem witness_AssemblerPlacesLabels :
    AsmLine.expand [(['w'], 3)] 7 (.bnz 1 0x1 ['w']) = some [.bnz 1 0x1 3] ∧
    AsmLine.label ['w'] ∉ [AsmLine.wait, .label ['v']] ∧
    (assemble ([.wait] ++ AsmLine.label ['w'] :: [.bnz 1 0x1 ['w']])).isSome = true ∧
    63 < 64 ∧ AsmLine.final 64 ∈ [AsmLine.init, .final 64] ∧ List.lookup ['w'] [(['w'], 3)] = some 3 ∧
    (List.replicate 64 (0x61 : Byte)).length = 64 ∧ (List.replicate 63 (0x61 : Byte)).length ≤ 63 := by
  decide +kernel

/-! ## Witnesses: reset and the whole machine -/

theorem witness_ResetEventClearsCore : moveOf { running .block 0 with schedule := [.rst true] } = .rst true := by decide

/-- The clauses: a CMD write under reset, an engine's turn under reset, the release. -/
theorem witness_HeldResetIgnoresHostAndReleaseKeepsCore :
    (let s := atStmt (.wr { off := 0x000 } 0x00000001) { State.reset with rst := true };
      s.rst = true ∧ moveOf s = .host ∧ step s = .next { s with hpc := 1, schedule := [] }) ∧
    (let s := { State.reset with rst := true, schedule := [.engine] };
      s.rst = true ∧ moveOf s = .engine) ∧
    moveOf { State.reset with rst := true, schedule := [.rst false] } = .rst false :=
  ⟨⟨rfl, rfl, of_answers (by decide +kernel)⟩, ⟨rfl, rfl⟩, rfl⟩

theorem witness_StepKeepsInvariant :
    (running .init 0).Inv ∧ step (running .init 0) = .next { opened 0 with
      blk := Vector.replicate 16 0, blkw := Vector.replicate 16 true } :=
  ⟨running_inv _ _ rfl, of_answers (by decide +kernel)⟩

/-- ERR stays over an illegal word, and is cleared by an INIT. -/
theorem witness_ErrorClearedOnlyByInitOrReset :
    let s := atStmt (.wr { off := 0x000 } 0x00000001) erring
    let s' := atStmt (.wr { off := 0x000 } 0x00000004) erring
    s.err = true ∧ andThenHolds (step s) (fun t => t.err == false) = true ∧
    s'.err = true ∧ andThenHolds (step s') (fun t => t.err && t.errcode == 1) = true := by decide +kernel

theorem witness_BlkChangedOnlyByHostWrite :
    let s := atStmt (.wr { off := 0x07C } 7) State.reset
    andThenHolds (step s) (fun t => t.blk[15] != s.blk[15] && t.blkw[15] != s.blkw[15]) = true := by decide +kernel

theorem witness_DigestRegistersWrittenOnlyByEngine :
    (running (.final 0) 0).Inv ∧
    andThenHolds (step (running (.final 0) 0)) (fun t => t.h != (running (.final 0) 0).h &&
      t.hex != (running (.final 0) 0).hex) = true :=
  ⟨running_inv _ _ rfl, by decide +kernel⟩

/-- The changes of each clause: an INIT accepted over an open computation and after a FINAL, a BLOCK and a FINAL
completed. -/
theorem witness_ProgressChangesOnlyByCommandsAndReset :
    ((opened 64).Inv ∧
      andThenHolds (step (atStmt (.wr { off := 0x000 } 0x00000001) (opened 64))) (fun t =>
        t.total != (opened 64).total && t.busy != (opened 64).busy && t.pend != (opened 64).pend) = true) ∧
    (finished.Inv ∧
      andThenHolds (step (atStmt (.wr { off := 0x000 } 0x00000001) finished)) (fun t =>
        t.active && !t.done) = true) ∧
    ((running .block 0).Inv ∧
      andThenHolds (step (running .block 0)) (fun t => t.total == 64 && t.pend == none) = true) ∧
    (running (.final 63) 0).Inv ∧
    andThenHolds (step (running (.final 63) 0)) (fun t => t.total == 63 && !t.active && t.done) = true :=
  ⟨⟨opened_inv 64 (by decide), by decide +kernel⟩, ⟨finished_inv, by decide +kernel⟩,
    ⟨running_inv _ _ rfl, by decide +kernel⟩, running_inv _ _ rfl, by decide +kernel⟩

theorem witness_PendingCommandCompletes :
    let s := { running .block 0 with schedule := [.host, .host, .engine] }
    s.Inv ∧ s.rst = false ∧ (∀ l, Move.rst l ∉ s.schedule) ∧ s.pend ≠ none := by
  refine ⟨?_, rfl, by decide, by decide⟩
  have h := running_inv .block 0 rfl
  exact ⟨h.busy_pend, h.pend_ok, h.active_hw, h.active_total, h.total_le, h.done_idle, h.done_hex, h.err_clear,
    h.err_set, h.rst_idle⟩

theorem witness_BothInterleavingsAreRuns :
    let s := atStmt (.wr { off := 0x040 + 4 * (15 : Fin 16).val } 0x61626300) (running .init 0)
    s.pend = some .init ∧ s.busy = true ∧ s.rst = false ∧ s.err = false ∧
    s.prog[s.hpc]? = some (.wr { off := 0x040 + 4 * (15 : Fin 16).val } 0x61626300) := by decide

end Sys2Proof.Tests
end

section
/-! SUPPORT. What a step can do, and the statements about the state that follow from it (10_state.md). -/

namespace Sys2Proof.Machine

/-! ## What one step can do -/

/-- What a step can do that answers the next state `t`. -/
inductive Stepped (s t : State) : Prop where
  | coreKept (hpc : Nat) (vars : Vector Word 16) (d : Nat)
      (h : t = { s with schedule := s.schedule.tail, hpc := hpc, vars := vars, drawCount := d })
  | reset (m : moveOf s = .rst true) (h : t = setRst true (popMove s))
  | released (m : moveOf s = .rst false) (h : t = setRst false (popMove s))
  | raised (k : ErrKind) (m : moveOf s = .host) (up : s.rst = false) (h : t = raiseErr k (nextStmt (popMove s)))
  | stored (j : Fin 16) (a : BusAccess) (v : Word) (m : moveOf s = .host) (up : s.rst = false) (idle : s.busy = false)
      (st : s.prog[s.hpc]? = some (.wr a v)) (off : a.off = 0x040 + 4 * j.val)
      (h : t = storeBlk j v (nextStmt (popMove s)))
  | ran (i : Instr) (a : BusAccess) (w : Word) (m : moveOf s = .host) (up : s.rst = false) (idle : s.busy = false)
      (st : s.prog[s.hpc]? = some (.wr a w)) (off : a.off = 0x000) (dec : decode w = .ok i)
      (h : t = execState i (nextStmt (popMove s)))
  | completed (i : Instr) (m : moveOf s = .engine) (up : s.rst = false) (pending : s.pend = some i)
      (h : t = execState i (popMove s))

/-- The step of a host's CMD or BLK write, or of one without effect (R52). -/
theorem stepped_of_busWrite {s t : State} {a : BusAccess} {v : Word} (m : moveOf s = .host)
    (ha : accessRefusal a = none) (st : s.prog[s.hpc]? = some (.wr a v))
    (h : busWrite (regAt a.off) v (nextStmt (popMove s)) = .next t) : Stepped s t := by
  have hw := wrote (regAt a.off) v (nextStmt (popMove s))
  generalize busWrite (regAt a.off) v (nextStmt (popMove s)) = o at h hw
  cases hw with
  | nothing _ => cases h; exact .coreKept (s.hpc + 1) s.vars s.drawCount rfl
  | raised k up _ => cases h; exact .raised k m up rfl
  | stored j hr up idle =>
    cases h
    exact .stored j a v m up idle st ((regAt_eq_blk (accessRefusal_none ha).1).1 hr) rfl
  | ran i hr up idle dec =>
    rw [exec_eq] at h
    cases h
    exact .ran i a v m up idle st (regAt_eq_cmd.1 hr) dec rfl

/-- The step of a host's turn (R79). -/
theorem stepped_of_hostMove {s t : State} (m : moveOf s = .host) (h : hostMove (popMove s) = .next t) :
    Stepped s t := by
  have hm := hostMoved (popMove s)
  generalize hostMove (popMove s) = o at h hm
  cases hm with
  | idle => cases h; exact .coreKept s.hpc s.vars s.drawCount rfl
  | refused a r _ _ => cases h
  | wrote a v ha st => exact stepped_of_busWrite m ha st h
  | read k a _ _ =>
    cases h
    obtain ⟨d, hd⟩ := busRead_state (regAt a.off) (popMove s)
    rw [hd]
    exact .coreKept (s.hpc + 1) _ d rfl
  | branched k mask p _ =>
    cases h
    split_ifs
    · exact .coreKept p s.vars s.drawCount rfl
    · exact .coreKept (s.hpc + 1) s.vars s.drawCount rfl

/-- Every step that goes on is one of the seven of `Stepped` (R62). -/
theorem stepped {s t : State} (h : step s = .next t) : Stepped s t := by
  unfold step at h
  cases m : moveOf s with
  | host => rw [m] at h; exact stepped_of_hostMove m h
  | engine =>
    rw [m] at h
    change engineMove (popMove s) = .next t at h
    obtain ⟨he, -⟩ | ⟨i, up, pending, he⟩ := engineMove_cases (popMove s)
    · rw [he] at h; cases h; exact .coreKept s.hpc s.vars s.drawCount rfl
    · rw [he, exec_eq] at h; cases h; exact .completed i m up pending rfl
  | rst level =>
    rw [m] at h
    cases h
    cases level with
    | true => exact .reset m rfl
    | false => exact .released m rfl

/-! ## The two parts of a command, and what they leave unchanged -/

/-- complete(INIT), complete(BLOCK) and complete(FINAL N) (R173 to R175). -/
def completeState : Instr → State → State
  | .init => completeInit
  | .block => completeBlock
  | .final n => completeFinal n

/-- The pending command completes, which empties the latch (R172). -/
theorem execState_pending {i : Instr} {s : State} (h : s.pend = some i) :
    execState i s = finish (completeState i s) := by
  cases i <;> simp only [execState, h, if_true, completeState]

/-- A completion leaves BLK and the error alone (R26, R200). -/
theorem completeState_frame (i : Instr) (s : State) :
    (completeState i s).blk = s.blk ∧ (completeState i s).blkw = s.blkw ∧ (completeState i s).err = s.err ∧
      (completeState i s).errcode = s.errcode := by
  cases i with
  | init => exact ⟨rfl, rfl, rfl, rfl⟩
  | block =>
    obtain ⟨w, wv, h⟩ := completeBlock_eq s
    rw [completeState, h]
    exact ⟨rfl, rfl, rfl, rfl⟩
  | final n =>
    obtain ⟨w, wv, h⟩ := completeFinal_eq n s
    rw [completeState, h]
    exact ⟨rfl, rfl, rfl, rfl⟩

/-- A submission leaves H, HEX and BLK alone (R22, R26, R27, R171). -/
theorem Submitted.frame {i : Instr} {s t : State} (h : Submitted i s t) :
    t.h = s.h ∧ t.hex = s.hex ∧ t.blk = s.blk ∧ t.blkw = s.blkw := by
  cases h with
  | rejected k h => simp [h]
  | started h _ _ => simp [h]
  | latched h _ _ _ _ => simp [h]

/-- No command writes BLK or its marks (R26). -/
theorem execState_blk (i : Instr) (s : State) : (execState i s).blk = s.blk ∧ (execState i s).blkw = s.blkw := by
  by_cases hp : s.pend = some i
  · obtain ⟨hb, hw, -⟩ := completeState_frame i s
    rw [execState_pending hp]
    exact ⟨hb, hw⟩
  · obtain ⟨-, -, hb, hw⟩ := (submitted i s hp).frame
    exact ⟨hb, hw⟩

/-- A decoded command has an encoding (R72). -/
theorem wf_of_decode {w : Word} {i : Instr} (h : decode w = .ok i) : i.wf = true := by
  unfold decode at h
  split_ifs at h <;> cases h
  · rfl
  · rfl
  · have := (nField w).isLt
    simp only [Instr.wf, decide_eq_true_eq]
    omega


/-! ## The invariant: what moves only the host, and errors, stores and reset, keep it -/

theorem reset_inv : State.reset.Inv where
  busy_pend := rfl
  pend_ok := nofun
  active_hw := nofun
  active_total := nofun
  total_le := by decide
  done_idle := nofun
  done_hex := nofun
  err_clear := fun _ => rfl
  err_set := nofun
  rst_idle := nofun

section
variable {s : State}

/-- Nothing is pending in the invariant while BUSY = 0 (R37). -/
theorem State.Inv.pend_eq_none (hs : s.Inv) (idle : s.busy = false) : s.pend = none := by
  simpa [idle] using hs.busy_pend

/-- The invariant says nothing of the host, the schedule and the model's draw counter. -/
theorem State.Inv.of_coreKept (hs : s.Inv) (sch : List Move) (hpc : Nat) (vars : Vector Word 16) (d : Nat) :
    State.Inv { s with schedule := sch, hpc := hpc, vars := vars, drawCount := d } :=
  ⟨hs.busy_pend, hs.pend_ok, hs.active_hw, hs.active_total, hs.total_le, hs.done_idle, hs.done_hex, hs.err_clear,
    hs.err_set, hs.rst_idle⟩

theorem popMove_inv (hs : s.Inv) : (popMove s).Inv := hs.of_coreKept s.schedule.tail s.hpc s.vars s.drawCount

theorem nextStmt_inv (hs : s.Inv) : (nextStmt s).Inv := hs.of_coreKept s.schedule (s.hpc + 1) s.vars s.drawCount

/-- Asserting `rst` gives the reset state, which the invariant asks for while it is asserted (R230). -/
theorem setRst_inv (hs : s.Inv) (level : Bool) : (setRst level s).Inv := by
  cases level with
  | true =>
    exact { reset_inv with
      pend_ok := nofun
      rst_idle := fun _ => ⟨rfl, rfl, rfl, rfl, rfl, rfl, rfl⟩ }
  | false => exact { hs with rst_idle := nofun }

/-- An error recorded has one of the four codes (R202). -/
theorem raiseErr_inv (hs : s.Inv) (k : ErrKind) (up : s.rst = false) : (raiseErr k s).Inv := by
  cases he : s.err with
  | true => rwa [raiseErr_of_err k s he]
  | false =>
    rw [raiseErr_of_not_err k s he]
    exact { hs with
      err_clear := nofun
      err_set := fun _ => k.code_range
      rst_idle := fun hr => absurd hr (by simp [up]) }

theorem storeBlk_inv (hs : s.Inv) (j : Fin 16) (v : Word) (up : s.rst = false) : (storeBlk j v s).Inv :=
  { hs with rst_idle := fun hr => absurd hr (by simp [up]) }

/-! ## The invariant: acceptance keeps it -/

/-- The acceptance of INIT opens a computation with nothing absorbed and no error (R173). -/
theorem started_inv (up : s.rst = false) : (latch .init (openComputation (clearErr s))).Inv where
  busy_pend := rfl
  pend_ok := by rintro _ ⟨⟩; exact ⟨rfl, rfl⟩
  active_hw := nofun
  active_total := fun _ => by simp
  total_le := by simp
  done_idle := nofun
  done_hex := nofun
  err_clear := fun _ => rfl
  err_set := nofun
  rst_idle := fun hr => absurd hr (by simp [up])

/-- The checks of R171 are what the invariant asks of a pending BLOCK or FINAL. -/
theorem latched_inv (hs : s.Inv) {i : Instr} (up : s.rst = false) (idle : s.busy = false) (wf : i.wf = true)
    (hi : i ≠ .init) (act : s.active = true)
    (room : ∀ k, (i = .block ∧ k = 64 ∨ i = .final k) → s.total.toNat + k ≤ maxMsgBytes) : (latch i s).Inv where
  busy_pend := rfl
  pend_ok := by
    have hw : s.hw = true := hs.active_hw act (hs.pend_eq_none idle)
    rintro _ ⟨⟩
    cases i with
    | init => exact absurd rfl hi
    | block => exact ⟨act, hw, room 64 (.inl ⟨rfl, rfl⟩)⟩
    | final n => exact ⟨by simpa [Instr.wf] using wf, act, hw⟩
  active_hw := nofun
  active_total := hs.active_total
  total_le := hs.total_le
  done_idle := fun hd => absurd act (by simp [(hs.done_idle hd).1])
  done_hex := hs.done_hex
  err_clear := hs.err_clear
  err_set := hs.err_set
  rst_idle := fun hr => absurd hr (by simp [up])

theorem submitted_inv {t : State} {i : Instr} (hs : s.Inv) (up : s.rst = false) (wf : i.wf = true)
    (h : Submitted i s t) : t.Inv := by
  cases h with
  | rejected k h => exact h ▸ raiseErr_inv hs k up
  | started h _ _ => exact h ▸ started_inv up
  | latched h idle hi act room => exact h ▸ latched_inv hs up idle wf hi act room

/-! ## The invariant: completion keeps it -/

/-- While a command is pending `rst` is released (R231). -/
theorem State.Inv.rst_of_pending (hs : s.Inv) {i : Instr} (hp : s.pend = some i) : s.rst = false := by
  by_contra hr
  obtain ⟨hn, -⟩ := hs.rst_idle (by simpa using hr)
  simp [hn] at hp

/-- A pending command leaves no digest published (R33). -/
theorem State.Inv.done_of_pending (hs : s.Inv) {i : Instr} (hp : s.pend = some i) : s.done = false := by
  by_contra hd
  obtain ⟨-, hn⟩ := hs.done_idle (by simpa using hd)
  simp [hn] at hp

/-- complete(BLOCK) adds 64 to TOTAL exactly: the length check left room (R174, R206). -/
theorem completeBlock_total_toNat (hs : s.Inv) (hp : s.pend = some .block) :
    (completeBlock s).total.toNat = s.total.toNat + 64 := by
  obtain ⟨-, -, room⟩ := hs.pend_ok .block hp
  unfold maxMsgBytes at room
  simp only [completeBlock, setTotal_total, BitVec.toNat_ofNat]
  omega

/-- complete(FINAL N) adds N to TOTAL exactly: a whole number of blocks leaves room for a tail (R175). -/
theorem completeFinal_total_toNat (hs : s.Inv) {n : Nat} (hp : s.pend = some (.final n)) :
    (completeFinal n s).total.toNat = s.total.toNat + n := by
  obtain ⟨hn, act, -⟩ := hs.pend_ok _ hp
  obtain ⟨-, le⟩ := hs.active_total act
  obtain ⟨w, wv, h⟩ := completeFinal_eq n s
  simp only [h, BitVec.toNat_ofNat]
  omega

theorem finish_completeInit_inv (hs : s.Inv) (hp : s.pend = some .init) : (finish (completeInit s)).Inv :=
  { hs with
    busy_pend := rfl
    pend_ok := nofun
    active_hw := fun _ _ => rfl
    done_idle := fun hd => absurd hd (by simp [completeInit, hs.done_of_pending hp])
    done_hex := fun hd => absurd hd (by simp [completeInit, hs.done_of_pending hp])
    rst_idle := fun hr => absurd hr (by simp [completeInit, hs.rst_of_pending hp]) }

/-- After a BLOCK, TOTAL is still a multiple of 64 within the limit, so at most 2^61 - 64 (R174, R175). -/
theorem finish_completeBlock_inv (hs : s.Inv) (hp : s.pend = some .block) : (finish (completeBlock s)).Inv := by
  obtain ⟨act, hw, room⟩ := hs.pend_ok .block hp
  obtain ⟨mult, -⟩ := hs.active_total act
  have total := completeBlock_total_toNat hs hp
  obtain ⟨w, wv, h⟩ := completeBlock_eq s
  unfold maxMsgBytes at room
  exact
    { busy_pend := rfl
      pend_ok := nofun
      active_hw := fun _ _ => by simpa [h] using hw
      active_total := fun _ => by rw [finish_total, total]; omega
      total_le := by rw [finish_total, total]; exact room
      done_idle := fun hd => absurd hd (by simp [h, hs.done_of_pending hp])
      done_hex := fun hd => absurd hd (by simp [h, hs.done_of_pending hp])
      err_clear := by simpa [h] using hs.err_clear
      err_set := by simpa [h] using hs.err_set
      rst_idle := fun hr => absurd hr (by simp [h, hs.rst_of_pending hp]) }

/-- After a FINAL no computation is open, and HEX holds the digits of H (R175). -/
theorem finish_completeFinal_inv (hs : s.Inv) {n : Nat} (hp : s.pend = some (.final n)) :
    (finish (completeFinal n s)).Inv := by
  obtain ⟨hn, act, hw⟩ := hs.pend_ok _ hp
  obtain ⟨-, le⟩ := hs.active_total act
  have total := completeFinal_total_toNat hs hp
  obtain ⟨w, wv, h⟩ := completeFinal_eq n s
  exact
    { busy_pend := rfl
      pend_ok := nofun
      active_hw := fun ha => absurd ha (by simp [h])
      active_total := fun ha => absurd ha (by simp [h])
      total_le := by rw [finish_total, total]; unfold maxMsgBytes; omega
      done_idle := fun _ => ⟨by simp [h], rfl⟩
      done_hex := fun _ => by simp [h, hw]
      err_clear := by simpa [h] using hs.err_clear
      err_set := by simpa [h] using hs.err_set
      rst_idle := fun hr => absurd hr (by simp [h, hs.rst_of_pending hp]) }

/-- The completion step of the pending command keeps the invariant (R172). -/
theorem completed_inv (hs : s.Inv) {i : Instr} (hp : s.pend = some i) : (execState i s).Inv := by
  rw [execState_pending hp]
  cases i with
  | init => exact finish_completeInit_inv hs hp
  | block => exact finish_completeBlock_inv hs hp
  | final n => exact finish_completeFinal_inv hs hp

end

/-- A CMD write while BUSY = 0 only submits its command: nothing is pending (R171, R37). -/
theorem submitted_of_idle {s : State} (hs : s.Inv) (idle : s.busy = false) (i : Instr) :
    Submitted i s (execState i s) :=
  submitted i s (by simp [hs.pend_eq_none idle])

/-- Every step keeps the invariant. -/
theorem Stepped.inv {s t : State} (hs : s.Inv) (h : Stepped s t) : t.Inv := by
  cases h with
  | coreKept hpc vars d h => exact h ▸ hs.of_coreKept _ hpc vars d
  | reset _ h => exact h ▸ setRst_inv (popMove_inv hs) true
  | released _ h => exact h ▸ setRst_inv (popMove_inv hs) false
  | raised k _ up h => exact h ▸ raiseErr_inv (nextStmt_inv (popMove_inv hs)) k up
  | stored j _ v _ up _ _ _ h => exact h ▸ storeBlk_inv (nextStmt_inv (popMove_inv hs)) j v up
  | ran i _ _ _ up idle _ _ dec h =>
    have hs' := nextStmt_inv (popMove_inv hs)
    exact h ▸ submitted_inv hs' up (wf_of_decode dec) (submitted_of_idle hs' idle i)
  | completed i _ _ pending h => exact h ▸ completed_inv (popMove_inv hs) pending

/-- Settles O53: each of the moves a step can make keeps the invariant. -/
theorem stepKeepsInvariant : Obligations.StepKeepsInvariant := by
  unfold Obligations.StepKeepsInvariant
  intro s t hs h
  exact (stepped h).inv hs

/-! ## What a read of TOTAL shows -/

/-- Settles O44: TOTAL is at most 2^61 - 1 in the invariant. -/
theorem totalTopBitsReadZero : Obligations.TotalTopBitsReadZero := by
  unfold Obligations.TotalTopBitsReadZero
  intro s hs up idle
  have read : (busRead .totalHi s).1 = s.total.extractLsb' 32 32 := by simp [busRead, readExact, up, idle]
  have le : s.total.toNat ≤ 2 ^ 61 - 1 := hs.total_le
  rw [read]
  apply BitVec.eq_of_toNat_eq
  simp only [BitVec.extractLsb'_toNat, BitVec.ofNat_eq_ofNat, BitVec.toNat_ofNat, Nat.shiftRight_eq_div_pow]
  omega

/-! ## What changes the registers -/

/-- Settles O56: of the moves a step can make, only reset and an accepted BLK write touch BLK. -/
theorem blkChangedOnlyByHostWrite : Obligations.BlkChangedOnlyByHostWrite := by
  unfold Obligations.BlkChangedOnlyByHostWrite
  intro s t j h changed
  cases stepped h with
  | coreKept _ _ _ h => simp [h] at changed
  | reset m _ => exact .inl m
  | released _ h => simp [h] at changed
  | raised _ _ _ h => simp [h] at changed
  | stored k a v m up idle st off h =>
    have same : k = j := by
      by_contra ne
      have ne' : k.val ≠ j.val := fun e => ne (Fin.ext e)
      simp [h, ne'] at changed
    subst same
    exact .inr ⟨m, idle, up, a, v, st, off, by simp [h], by simp [h]⟩
  | ran i _ _ _ _ _ _ _ _ h =>
    obtain ⟨hb, hw⟩ := execState_blk i (nextStmt (popMove s))
    simp [h, hb, hw] at changed
  | completed i _ _ _ h =>
    obtain ⟨hb, hw⟩ := execState_blk i (popMove s)
    simp [h, hb, hw] at changed

/-- Of the completions only that of a FINAL writes HEX (R27). -/
theorem completeState_hex {i : Instr} {s : State} (h : (completeState i s).hex ≠ s.hex) : ∃ n, i = .final n := by
  cases i with
  | init => exact absurd rfl h
  | block => simp [completeState, completeBlock] at h
  | final n => exact ⟨n, rfl⟩

/-- Settles O57: a submission leaves H and HEX alone, and in the invariant a CMD write is only a submission. -/
theorem digestRegistersWrittenOnlyByEngine : Obligations.DigestRegistersWrittenOnlyByEngine := by
  unfold Obligations.DigestRegistersWrittenOnlyByEngine
  intro s t hs h
  cases stepped h with
  | coreKept _ _ _ h => simp [h]
  | reset m _ => exact ⟨fun _ => .inl m, fun _ => .inl m⟩
  | released _ h => simp [h]
  | raised _ _ _ h => simp [h]
  | stored _ _ _ _ _ _ _ _ h => simp [h]
  | ran i _ _ _ _ idle _ _ _ h =>
    obtain ⟨hh, hx, -⟩ := (submitted_of_idle (nextStmt_inv (popMove_inv hs)) idle i).frame
    simp [h, hh, hx]
  | completed i m _ pending h =>
    refine ⟨fun _ => .inr ⟨m, by simp [pending]⟩, fun changed => .inr ⟨m, ?_⟩⟩
    rw [h, execState_pending (s := popMove s) pending] at changed
    obtain ⟨n, rfl⟩ := completeState_hex changed
    exact ⟨n, pending⟩

/-- Settles O58: of the moves a step can make, reset, a submission and a completion are the only ones that touch the
progress of a computation. -/
theorem progressChangesOnlyByCommandsAndReset : Obligations.ProgressChangesOnlyByCommandsAndReset := by
  unfold Obligations.ProgressChangesOnlyByCommandsAndReset
  intro s t hs h reset accepted completed
  cases stepped h with
  | coreKept _ _ _ h => simp [h]
  | reset m h =>
    subst h
    exact ⟨fun _ => .inl ⟨rfl, .inl m⟩, fun _ => .inr ⟨rfl, .inl m⟩, fun _ => .inr ⟨rfl, .inl m⟩,
      fun _ => .inl ⟨rfl, rfl, .inl m⟩⟩
  | released _ h => simp [h]
  | raised _ _ _ h => simp [h]
  | stored _ _ _ _ _ _ _ _ h => simp [h]
  | ran i a w m _ idle st off dec h =>
    have pend := hs.pend_eq_none idle
    have sub := submitted_of_idle (nextStmt_inv (popMove_inv hs)) idle i
    rw [← h] at sub
    cases sub with
    | rejected _ h => simp [h]
    | started h _ hi =>
      have acc : accepted .init := ⟨m, idle, pend, by simp [h]⟩
      exact ⟨fun _ => .inl ⟨by simp [h], .inr acc⟩, fun _ => .inl ⟨by simp [h], acc⟩,
        fun _ => .inr ⟨by simp [h], .inr acc⟩, fun _ => .inr ⟨by simp [h], .init, acc, a, w, st, off, hi ▸ dec⟩⟩
    | latched h _ _ _ _ =>
      have acc : accepted i := ⟨m, idle, pend, by simp [h]⟩
      refine ⟨fun hc => ?_, fun hc => ?_, fun hc => ?_,
        fun _ => .inr ⟨by simp [h], i, acc, a, w, st, off, dec⟩⟩ <;>
      simp [h] at hc
  | completed i m _ pending h =>
    rw [execState_pending (s := popMove s) pending] at h
    have comp : completed i := ⟨m, pending, by simp [h]⟩
    have emptied : t.busy = false ∧ t.pend = none ∧ (reset ∨ ∃ i, completed i) :=
      ⟨by simp [h], by simp [h], .inr ⟨i, comp⟩⟩
    cases i with
    | init =>
      refine ⟨fun hc => ?_, fun hc => ?_, fun hc => ?_, fun _ => .inl emptied⟩ <;>
      simp [h, completeState, completeInit] at hc
    | block =>
      have total := completeBlock_total_toNat (popMove_inv hs) pending
      refine ⟨fun _ => .inr (.inl ⟨comp, ?_⟩), fun hc => ?_, fun hc => ?_, fun _ => .inl emptied⟩
      · rw [h]; exact total
      · simp [h, completeState, completeBlock] at hc
      · simp [h, completeState, completeBlock] at hc
    | final n =>
      have total := completeFinal_total_toNat (popMove_inv hs) pending
      refine ⟨fun _ => .inr (.inr ⟨n, comp, ?_⟩), fun _ => .inr ⟨?_, .inr ⟨n, comp⟩⟩,
        fun _ => .inl ⟨?_, n, comp⟩, fun _ => .inl emptied⟩
      · rw [h]; exact total
      · simp [h, completeState, completeFinal]
      · simp [h, completeState, completeFinal]

end Sys2Proof.Machine
end

section
/-! SUPPORT. The register window (20_memory.md): its map, the transactions without effect, the accesses it refuses, and
the two orders of a BLK write and a completion step (R62). -/

namespace Sys2Proof.Machine

/-! ## The register map and back (R54) -/

theorem regAt_eq_h {off : Nat} {i : Fin 8} (h4 : off % 4 = 0) : regAt off = .h i ↔ off = 0x080 + 4 * i.val := by
  unfold regAt
  split_ifs <;> simp_all [Fin.ext_iff]
  all_goals omega

theorem regAt_eq_hex {off : Nat} {j : Fin 16} (h4 : off % 4 = 0) : regAt off = .hex j ↔ off = 0x0C0 + 4 * j.val := by
  unfold regAt
  split_ifs <;> simp_all [Fin.ext_iff]
  all_goals omega

/-- The aligned offsets of the two gaps of the map are reserved slots (R55). -/
theorem regAt_reserved {off : Nat} (h4 : off % 4 = 0)
    (gap : (0x010 ≤ off ∧ off ≤ 0x03C) ∨ (0x0A0 ≤ off ∧ off ≤ 0x0BC)) : regAt off = .reserved off := by
  unfold regAt
  repeat rw [if_neg (by omega)]

/-- Settles O37, register by register. -/
theorem registerMapIsRuleR54 : Obligations.RegisterMapIsRuleR54 := by
  unfold Obligations.RegisterMapIsRuleR54
  refine ⟨fun r slot => ?_, rfl, rfl, rfl, rfl, fun _ => rfl, fun _ => rfl, fun _ => rfl⟩
  cases r with
  | cmd => decide
  | status => decide
  | totalLo => decide
  | totalHi => decide
  | blk j =>
    simp only [Reg.offset]
    exact ⟨(regAt_eq_blk (by omega)).2 rfl, by omega, by omega⟩
  | h i =>
    simp only [Reg.offset]
    exact ⟨(regAt_eq_h (by omega)).2 rfl, by omega, by omega⟩
  | hex j =>
    simp only [Reg.offset]
    exact ⟨(regAt_eq_hex (by omega)).2 rfl, by omega, by omega⟩
  | reserved off =>
    obtain ⟨h4, gap⟩ := slot off rfl
    simp only [Reg.offset]
    exact ⟨regAt_reserved h4 gap, h4, by omega⟩

/-! ## Transactions without effect (R55, R56) -/

/-- Only a write to CMD or BLK can record an error, store a word or run a command (R56). -/
theorem busWrite_of_not_cmd_blk {r : Reg} (hc : r ≠ .cmd) (hb : ∀ j, r ≠ .blk j) (v : Word) (s : State) :
    busWrite r v s = .next s := by
  have h := wrote r v s
  generalize busWrite r v s = o at h
  cases h with
  | nothing _ => rfl
  | raised _ _ target => exact absurd target (by simp [hc, hb])
  | stored j target _ _ => exact absurd target (hb j)
  | ran _ target _ _ _ => exact absurd target hc

theorem busRead_reserved (off : Nat) {s : State} (up : s.rst = false) : busRead (.reserved off) s = (0, s) := by
  simp [busRead, readExact, up]

/-- Settles O41. -/
theorem onlyCmdAndBlkWritesHaveEffect : Obligations.OnlyCmdAndBlkWritesHaveEffect :=
  ⟨busRead_state, fun _ v s hc hb => busWrite_of_not_cmd_blk hc hb v s⟩

/-- Settles O42: such an offset names a reserved slot, which is neither CMD nor a word of BLK. -/
theorem reservedSlotsReadZero : Obligations.ReservedSlotsReadZero := by
  unfold Obligations.ReservedSlotsReadZero
  intro s off up h4 gap
  rw [regAt_reserved h4 gap]
  exact ⟨busRead_reserved off up, fun v => busWrite_of_not_cmd_blk (by simp) (by simp) v s⟩

/-! ## One step whose move is known (R62) -/

/-- The host's turn runs the statement at its place (R79). -/
theorem step_stmt {s : State} {st : HostStmt} (m : moveOf s = .host) (place : s.prog[s.hpc]? = some st) :
    step s = runStmt st (popMove s) := by
  rw [step, m, runMove, hostMove, popMove_prog, popMove_hpc, place]

/-- The host's turn at a WR inside the interface is its BusWrite (R79). -/
theorem step_wr {s : State} {a : BusAccess} {v : Word} (m : moveOf s = .host)
    (place : s.prog[s.hpc]? = some (.wr a v)) (inside : accessRefusal a = none) :
    step s = busWrite (regAt a.off) v (nextStmt (popMove s)) := by
  rw [step_stmt m place, runStmt, inside]

/-- The engine's turn runs the pending command (R172). -/
theorem step_pending {s : State} {i : Instr} (m : moveOf s = .engine) (up : s.rst = false) (hp : s.pend = some i) :
    step s = .next (finish (completeState i (popMove s))) := by
  have hp' : (popMove s).pend = some i := hp
  simp [step, m, runMove, engineMove, up, hp, exec_eq, execState_pending hp']

/-- The host's turn at a WR to BLK[j] (R177). -/
theorem step_blkWrite {s : State} {j : Fin 16} {v : Word} (m : moveOf s = .host) (up : s.rst = false)
    (place : s.prog[s.hpc]? = some (.wr { off := 0x040 + 4 * j.val } v)) :
    step s = .next (blkWrite j v (nextStmt (popMove s))) := by
  have inside : accessRefusal { off := 0x040 + 4 * j.val } = none :=
    accessRefusal_eq_none.2 ⟨rfl, rfl, by simp only; omega, by simp only; omega⟩
  rw [step_wr m place inside, (regAt_eq_blk (by omega)).2 rfl]
  simp [busWrite, up]

/-- A BLK write while BUSY = 0 is stored (R177). -/
theorem step_blkWrite_stored {s : State} {j : Fin 16} {v : Word} (m : moveOf s = .host) (up : s.rst = false)
    (place : s.prog[s.hpc]? = some (.wr { off := 0x040 + 4 * j.val } v)) (idle : s.busy = false) :
    step s = .next (storeBlk j v (nextStmt (popMove s))) := by
  rw [step_blkWrite m up place, blkWrite, nextStmt_busy, popMove_busy, idle, if_neg Bool.false_ne_true]

/-- A BLK write in the BUSY window is dropped with error BUSY (R177). -/
theorem step_blkWrite_dropped {s : State} {j : Fin 16} {v : Word} (m : moveOf s = .host) (up : s.rst = false)
    (place : s.prog[s.hpc]? = some (.wr { off := 0x040 + 4 * j.val } v)) (busy : s.busy = true) :
    step s = .next (raiseErr .busy (nextStmt (popMove s))) := by
  rw [step_blkWrite m up place, blkWrite, nextStmt_busy, popMove_busy, busy, if_pos rfl]

/-! ## Refused accesses (R51, R53) -/

/-- The host's turn at an access is refused exactly where the access is. -/
theorem step_refused_iff {s : State} {a : BusAccess} (m : moveOf s = .host)
    (place : (∃ v, s.prog[s.hpc]? = some (.wr a v)) ∨ ∃ k, s.prog[s.hpc]? = some (.rd k a)) :
    (∃ r, step s = .refused r) ↔ accessRefusal a ≠ none := by
  obtain ⟨v, place⟩ | ⟨k, place⟩ := place
  · rw [step_stmt m place, runStmt]
    cases accessRefusal a with
    | some r => simp
    | none =>
      obtain ⟨t, h⟩ := busWrite_next (regAt a.off) v (nextStmt (popMove s))
      simp [h]
  · rw [step_stmt m place, runStmt]
    cases accessRefusal a with
    | some r => simp
    | none => simp

/-- Settles O48: the four grounds are what the accesses inside the interface avoid. -/
theorem accessesOutsideInterfaceRefused : Obligations.AccessesOutsideInterfaceRefused := by
  unfold Obligations.AccessesOutsideInterfaceRefused
  intro s a m place
  rw [step_refused_iff m place, ne_eq, accessRefusal_eq_none]
  simp only [not_and_or, Bool.not_eq_false, not_lt]
  tauto

/-! ## A BLK write and the completion of INIT, in both orders (R62, R172, R177) -/

theorem runSteps_two {s t u : State} (first : step s = .next t) (second : step t = .next u) :
    runSteps 2 s = .next u := by
  simp [runSteps, first, second]

/-- Settles O60: where the engine is first the write finds BUSY = 0 and is stored; where the host is first it finds
BUSY = 1 and is dropped, and INIT completes after it all the same. -/
theorem bothInterleavingsAreRuns : Obligations.BothInterleavingsAreRuns := by
  unfold Obligations.BothInterleavingsAreRuns
  intro s j v hp busy up ok place
  constructor
  · have completed := step_pending (s := { s with schedule := [.engine, .host] }) rfl up hp
    have stored := step_blkWrite_stored (s := finish (completeInit { s with schedule := [.host] })) rfl up place rfl
    exact ⟨_, runSteps_two completed stored, rfl, rfl, by simp, by simp, ok⟩
  · have dropped := step_blkWrite_dropped (s := { s with schedule := [.host, .engine] }) rfl up place busy
    have completed := step_pending (s := raiseErr .busy (nextStmt (popMove { s with schedule := [.host, .engine] })))
      (by simp [moveOf]) (by simpa using up) (by simpa using hp)
    have code := raiseErr_of_not_err .busy (nextStmt (popMove { s with schedule := [.host, .engine] })) ok
    refine ⟨_, runSteps_two dropped completed, rfl, rfl, ?_⟩
    simp [completeState, completeInit, code, ErrKind.code]

end Sys2Proof.Machine
end

section
/-! SUPPORT. Decoding and encoding of command words (30_encoding.md): the three fields of a word, the two round trips,
the rows of the opcode map and the illegal words. -/

namespace Sys2Proof

/-! ## The three fields of a word (R70 to R73) -/

/-- A word is its RSV, N and OP side by side (R70). -/
theorem append_fields (w : Word) : rsvField w ++ nField w ++ opField w = w := by
  unfold rsvField nField opField
  rw [BitVec.extractLsb'_append_extractLsb'_eq_extractLsb' (by decide),
    BitVec.extractLsb'_append_extractLsb'_eq_extractLsb' (by decide)]
  exact BitVec.extractLsb'_eq_self

/-- Two words are the same when their three fields are. -/
theorem eq_iff_fields {w v : Word} :
    w = v ↔ rsvField w = rsvField v ∧ nField w = nField v ∧ opField w = opField v := by
  constructor
  · rintro rfl
    exact ⟨rfl, rfl, rfl⟩
  · rintro ⟨hr, hn, ho⟩
    rw [← append_fields w, ← append_fields v, hr, hn, ho]

@[simp] theorem rsvField_and (w v : Word) : rsvField (w &&& v) = rsvField w &&& rsvField v := BitVec.extractLsb'_and

@[simp] theorem nField_and (w v : Word) : nField (w &&& v) = nField w &&& nField v := BitVec.extractLsb'_and

@[simp] theorem opField_and (w v : Word) : opField (w &&& v) = opField w &&& opField v := BitVec.extractLsb'_and

/-! ## The fields of the word of a command (R74, R80) -/

theorem encode_final_toNat {n : Nat} (h : n ≤ 63) : (encode (.final n)).toNat = 2 ^ 8 * n + 3 := by
  have small : ((n % 2 ^ 32) <<< 8) % 2 ^ 32 = 2 ^ 8 * n := by
    rw [Nat.shiftLeft_eq]
    omega
  rw [Nat.two_pow_add_eq_or_of_lt (by decide) n, ← small]
  simp only [encode, BitVec.toNat_or, BitVec.toNat_shiftLeft, BitVec.toNat_ofNat, BitVec.ofNat_eq_ofNat]

theorem rsvField_encode_final {n : Nat} (h : n ≤ 63) : rsvField (encode (.final n)) = 0 := by
  apply BitVec.eq_of_toNat_eq
  simp only [rsvField, BitVec.extractLsb'_toNat, encode_final_toNat h, Nat.shiftRight_eq_div_pow, BitVec.ofNat_eq_ofNat,
    BitVec.toNat_ofNat]
  omega

theorem nField_encode_final {n : Nat} (h : n ≤ 63) : nField (encode (.final n)) = BitVec.ofNat 6 n := by
  apply BitVec.eq_of_toNat_eq
  simp only [nField, BitVec.extractLsb'_toNat, encode_final_toNat h, Nat.shiftRight_eq_div_pow, BitVec.toNat_ofNat]
  omega

theorem opField_encode_final {n : Nat} (h : n ≤ 63) : opField (encode (.final n)) = 3 := by
  apply BitVec.eq_of_toNat_eq
  simp only [opField, BitVec.extractLsb'_toNat, encode_final_toNat h, Nat.shiftRight_eq_div_pow, BitVec.ofNat_eq_ofNat,
    BitVec.toNat_ofNat]
  omega

/-! ## The two round trips (R72 to R77) -/

/-- Settles O1, from the fields of the command's word. -/
theorem decodeOfEncode : Obligations.DecodeOfEncode := by
  unfold Obligations.DecodeOfEncode
  intro i h
  cases i with
  | init => rfl
  | block => rfl
  | final n =>
    have le : n ≤ 63 := by simpa [Instr.wf] using h
    have read : (BitVec.ofNat 6 n).toNat = n := Nat.mod_eq_of_lt (by omega)
    simp [decode, rsvField_encode_final le, opField_encode_final le, nField_encode_final le, read]

/-- A word is that of FINAL N, N its own operand, exactly where RSV is 0 and OP is 0x03 (R74). -/
theorem encode_final_nField {w : Word} :
    encode (.final (nField w).toNat) = w ↔ rsvField w = 0 ∧ opField w = 3 := by
  have le : (nField w).toNat ≤ 63 := by have := (nField w).isLt; omega
  rw [eq_iff_fields, rsvField_encode_final le, nField_encode_final le, opField_encode_final le, BitVec.ofNat_toNat]
  simp [eq_comm]

/-- Settles O2: each answer of the decoder fixes the three fields of the word. -/
theorem encodeOfDecode : Obligations.EncodeOfDecode := by
  unfold Obligations.EncodeOfDecode
  intro w i h
  refine ⟨Machine.wf_of_decode h, ?_⟩
  unfold decode at h
  split_ifs at h with hr hi hn hb hn hf <;> cases h
  · exact eq_iff_fields.2 ⟨(not_not.1 hr).symm, hn.symm, hi.symm⟩
  · exact eq_iff_fields.2 ⟨(not_not.1 hr).symm, hn.symm, hb.symm⟩
  · exact encode_final_nField.2 ⟨not_not.1 hr, hf⟩

theorem decode_eq_ok_iff {w : Word} {i : Instr} : decode w = .ok i ↔ i.wf = true ∧ encode i = w :=
  ⟨encodeOfDecode w i, fun ⟨h, e⟩ => e ▸ decodeOfEncode i h⟩

/-! ## The rows of the opcode map (R74, R76, R77) -/

/-- The row of FINAL, its `mask` and `match` columns read field by field. -/
theorem finalRow_iff {w : Word} : w &&& 0xFFFFC0FF = 0x00000003 ↔ rsvField w = 0 ∧ opField w = 3 := by
  have mr : rsvField 0xFFFFC0FF = BitVec.allOnes 18 := by decide
  have mn : nField 0xFFFFC0FF = 0 := by decide
  have mo : opField 0xFFFFC0FF = BitVec.allOnes 8 := by decide
  rw [eq_iff_fields, rsvField_and, nField_and, opField_and, mr, mn, mo, BitVec.and_allOnes, BitVec.and_allOnes]
  exact ⟨fun ⟨hr, _, ho⟩ => ⟨hr, ho⟩, fun ⟨hr, ho⟩ => ⟨hr, BitVec.and_zero, ho⟩⟩

theorem decode_of_finalRow {w : Word} (h : w &&& 0xFFFFC0FF = 0x00000003) :
    decode w = .ok (.final (nField w).toNat) := by
  have lt := (nField w).isLt
  exact decode_eq_ok_iff.2 ⟨decide_eq_true (by omega), encode_final_nField.2 (finalRow_iff.1 h)⟩

/-- The word of a well-formed command matches the row of the command. -/
theorem encode_and_maskBits {i : Instr} (h : i.wf = true) : encode i &&& i.maskBits = i.matchBits := by
  cases i with
  | init => exact Laws.MatchMask.init h
  | block => exact Laws.MatchMask.block h
  | final n => exact Laws.MatchMask.final n h

/-- A word spells a command exactly where it matches a row (R76, R77). -/
theorem exists_decode_ok_iff {w : Word} :
    (∃ i, decode w = .ok i) ↔ ∃ i : Instr, w &&& i.maskBits = i.matchBits := by
  constructor
  · rintro ⟨i, h⟩
    obtain ⟨wf, rfl⟩ := decode_eq_ok_iff.1 h
    exact ⟨i, encode_and_maskBits wf⟩
  · rintro ⟨i, h⟩
    cases i with
    | init => exact ⟨.init, decode_eq_ok_iff.2 ⟨rfl, h.symm.trans BitVec.and_allOnes⟩⟩
    | block => exact ⟨.block, decode_eq_ok_iff.2 ⟨rfl, h.symm.trans BitVec.and_allOnes⟩⟩
    | final n => exact ⟨_, decode_of_finalRow h⟩

/-- Settles O3: a word that is in none of the three cases matches no row, and so spells no command. -/
theorem decodeIsRuleR77 : Obligations.DecodeIsRuleR77 := by
  unfold Obligations.DecodeIsRuleR77
  intro w
  split_ifs with hi hb hf
  · rw [hi]; rfl
  · rw [hb]; rfl
  · rw [decode_of_finalRow hf]; rfl
  · cases hd : decode w with
    | error e => rfl
    | ok i =>
      obtain ⟨wf, rfl⟩ := decode_eq_ok_iff.1 hd
      cases i with
      | init => exact absurd rfl hi
      | block => exact absurd rfl hb
      | final n => exact absurd (encode_and_maskBits wf) hf

/-! ## The illegal words (R76, R203) -/

theorem exists_decode_error_iff {w : Word} : (∃ e, decode w = .error e) ↔ ¬ ∃ i, decode w = .ok i := by
  cases decode w <;> simp

/-- The grounds of R76, read from the fields. -/
theorem exists_decode_error_iff_fields {w : Word} :
    (∃ e, decode w = .error e) ↔
      (opField w = 0x00 ∨ 0x04 ≤ opField w ∨ rsvField w ≠ 0 ∨
        (nField w ≠ 0 ∧ (opField w = 0x01 ∨ opField w = 0x02))) := by
  unfold decode
  split_ifs with hr hi hn hb hn hf
  · exact iff_of_true ⟨_, rfl⟩ (.inr (.inr (.inl hr)))
  · exact iff_of_false nofun (by simp_all)
  · exact iff_of_true ⟨_, rfl⟩ (.inr (.inr (.inr ⟨hn, .inl hi⟩)))
  · exact iff_of_false nofun (by simp_all)
  · exact iff_of_true ⟨_, rfl⟩ (.inr (.inr (.inr ⟨hn, .inr hb⟩)))
  · exact iff_of_false nofun (by simp_all)
  · have other : opField w = 0x00 ∨ 0x04 ≤ opField w := by bv_omega
    exact iff_of_true ⟨_, rfl⟩ (other.imp_right .inl)

/-- Settles O5, row by row of the table. -/
theorem sampleCommandWords : Obligations.SampleCommandWords := by
  unfold Obligations.SampleCommandWords
  decide

end Sys2Proof

namespace Sys2Proof.Machine

/-- A CMD write of an illegal word while BUSY = 0 records ILLEGAL and does nothing else (R171, R203). -/
theorem busWrite_illegal {w : Word} {s : State} {e : IllegalWord} (dec : decode w = .error e) (idle : s.busy = false)
    (up : s.rst = false) : busWrite .cmd w s = .next (raiseErr .illegal s) := by
  simp [busWrite, cmdWrite, dec, idle, up]

/-- Settles O4: an illegal word is one that spells no command, so it matches no row; and its write is one error. -/
theorem illegalWordsAndTheirWrite : Obligations.IllegalWordsAndTheirWrite := by
  unfold Obligations.IllegalWordsAndTheirWrite
  intro w
  refine ⟨?_, exists_decode_error_iff_fields, fun s e dec idle up => busWrite_illegal dec idle up⟩
  rw [exists_decode_error_iff, exists_decode_ok_iff, not_exists]

end Sys2Proof.Machine
end

section
/-! SUPPORT. The assembler of host programs (R79, R80, R185): lengths of the expansions, places of the labels, and the
programs that certainly assemble. -/

namespace Sys2Proof.Machine

/-! ## Sizes (R80) -/

@[simp] theorem loadStmts_length (bs : List Byte) : (loadStmts bs).length = (bs.length + 3) / 4 := by simp [loadStmts]

/-- A line becomes as many statements as its size says. -/
theorem expand_length {labels : List (List Char × Nat)} {pos : Nat} {line : AsmLine} {stmts : List HostStmt}
    (h : line.expand labels pos = some stmts) : stmts.length = line.size := by
  cases line with
  | bnz k mask l =>
    obtain ⟨p, -, rfl⟩ := Option.map_eq_some_iff.1 h
    rfl
  | loadBlk bs => cases h; exact loadStmts_length bs
  | loadTail bs => cases h; exact loadStmts_length bs
  | _ => cases h; rfl

/-! ## Places of labels (R79) -/

/-- A line that is no label moves the places of the labels after it by its size. -/
theorem labelPlaces_cons_of_not_label {line : AsmLine} (h : ∀ l, line ≠ .label l) (pos : Nat) (rest : List AsmLine) :
    labelPlaces pos (line :: rest) = labelPlaces (pos + line.size) rest := by
  cases line with
  | label l => exact absurd rfl (h l)
  | _ => rfl

/-- The place of a label is that of the statements before it, and the first label of a name counts. -/
theorem lookup_labelPlaces {l : List Char} {pre : List AsmLine} (fresh : AsmLine.label l ∉ pre) (pos : Nat)
    (post : List AsmLine) :
    (labelPlaces pos (pre ++ .label l :: post)).lookup l = some (pos + (pre.map AsmLine.size).sum) := by
  induction pre generalizing pos with
  | nil => simp [labelPlaces]
  | cons line pre ih =>
    obtain ⟨ne, fresh'⟩ := List.ne_and_not_mem_of_not_mem_cons fresh
    by_cases isLabel : ∃ k, line = .label k
    · obtain ⟨k, rfl⟩ := isLabel
      have other : (l == k) = false := by simpa using ne
      simpa [labelPlaces, List.lookup_cons, other, AsmLine.size] using ih fresh' pos
    · rw [List.cons_append, labelPlaces_cons_of_not_label (not_exists.1 isLabel), ih fresh', List.map_cons,
        List.sum_cons, Nat.add_assoc]

/-! ## Expansions in their places (R80) -/

/-- The expansion of a list of lines is that of its first line followed by that of the rest. -/
theorem expandAll_cons_eq_some {labels : List (List Char × Nat)} {pos : Nat} {line : AsmLine} {rest : List AsmLine}
    {p : List HostStmt} :
    expandAll labels pos (line :: rest) = some p ↔
      ∃ a b, line.expand labels pos = some a ∧ expandAll labels (pos + line.size) rest = some b ∧ p = a ++ b := by
  simp only [expandAll]
  cases line.expand labels pos <;> cases expandAll labels (pos + line.size) rest <;> simp [eq_comm]

/-- The expansion of every line stands at its place. -/
theorem expandAll_split {labels : List (List Char × Nat)} {pos : Nat} {pre : List AsmLine} {line : AsmLine}
    {post : List AsmLine} {p : List HostStmt} (h : expandAll labels pos (pre ++ line :: post) = some p) :
    ∃ before stmts after, p = before ++ stmts ++ after ∧ before.length = (pre.map AsmLine.size).sum ∧
      line.expand labels (pos + before.length) = some stmts := by
  induction pre generalizing pos p with
  | nil =>
    obtain ⟨stmts, after, first, -, rfl⟩ := expandAll_cons_eq_some.1 h
    exact ⟨[], stmts, after, rfl, rfl, first⟩
  | cons first pre ih =>
    obtain ⟨a, b, ha, hb, rfl⟩ := expandAll_cons_eq_some.1 h
    obtain ⟨before, stmts, after, rfl, length, here⟩ := ih hb
    have size := expand_length ha
    refine ⟨a ++ before, stmts, after, by simp, by simp [size, length], ?_⟩
    rw [List.length_append, size, ← Nat.add_assoc]
    exact here

/-- What an assembled program is: legal lines, no label named twice, and the expansions (R79, R80). -/
theorem assemble_eq_some {lines : List AsmLine} {p : List HostStmt} :
    assemble lines = some p ↔
      (∀ line ∈ lines, line.ok = true) ∧ ((labelPlaces 0 lines).map Prod.fst).Nodup ∧
        expandAll (labelPlaces 0 lines) 0 lines = some p := by
  simp [assemble, and_assoc]

/-- A program with a line the assembler does not take is rejected. -/
theorem assemble_eq_none {lines : List AsmLine} {line : AsmLine} (mem : line ∈ lines) (bad : line.ok = false) :
    assemble lines = none := by
  cases h : assemble lines with
  | none => rfl
  | some p =>
    have good := (assemble_eq_some.1 h).1 line mem
    rw [bad] at good
    cases good

/-- The words of LOADBLK and LOADTAIL go to the words of BLK in order (R80). -/
theorem loadStmts_eq {bs : List Byte} (h : bs.length ≤ 64) :
    loadStmts bs = (List.range ((bs.length + 3) / 4)).map fun j => .wr { off := 0x040 + 4 * j } (packWord bs j) := by
  apply List.map_congr_left
  intro j mem
  have lt : j < 16 := by have := List.mem_range.1 mem; omega
  simp [wrStmt, Reg.offset, Nat.mod_eq_of_lt lt]

/-! ## Programs without labels and branches, and the procedure (R185) -/

/-- The line neither names a label nor branches to one by name. -/
def AsmLine.straight : AsmLine → Bool
  | .label _ => false
  | .bnz _ _ _ => false
  | _ => true

theorem AsmLine.expand_of_straight {line : AsmLine} (h : line.straight = true) (labels : List (List Char × Nat))
    (pos : Nat) : ∃ stmts, line.expand labels pos = some stmts := by
  cases line with
  | label l => cases h
  | bnz k mask l => cases h
  | _ => exact ⟨_, rfl⟩

theorem AsmLine.ne_label_of_straight {line : AsmLine} (h : line.straight = true) (l : List Char) : line ≠ .label l := by
  rintro rfl
  cases h

theorem labelPlaces_of_straight {lines : List AsmLine} (h : ∀ line ∈ lines, line.straight = true) (pos : Nat) :
    labelPlaces pos lines = [] := by
  induction lines generalizing pos with
  | nil => rfl
  | cons line rest ih =>
    obtain ⟨first, rest⟩ := List.forall_mem_cons.1 h
    rw [labelPlaces_cons_of_not_label (AsmLine.ne_label_of_straight first), ih rest]

theorem expandAll_of_straight {lines : List AsmLine} (h : ∀ line ∈ lines, line.straight = true)
    (labels : List (List Char × Nat)) (pos : Nat) : ∃ p, expandAll labels pos lines = some p := by
  induction lines generalizing pos with
  | nil => exact ⟨[], rfl⟩
  | cons line rest ih =>
    obtain ⟨first, rest⟩ := List.forall_mem_cons.1 h
    obtain ⟨a, ha⟩ := AsmLine.expand_of_straight first labels pos
    obtain ⟨b, hb⟩ := ih rest (pos + line.size)
    exact ⟨a ++ b, expandAll_cons_eq_some.2 ⟨a, b, ha, hb, rfl⟩⟩

/-- Legal lines without labels and branches assemble. -/
theorem assemble_of_straight {lines : List AsmLine} (h : ∀ line ∈ lines, line.ok = true ∧ line.straight = true) :
    ∃ p, assemble lines = some p := by
  have straight : ∀ line ∈ lines, line.straight = true := fun line mem => (h line mem).2
  obtain ⟨p, hp⟩ := expandAll_of_straight straight (labelPlaces 0 lines) 0
  refine ⟨p, assemble_eq_some.2 ⟨fun line mem => (h line mem).1, ?_, hp⟩⟩
  simp [labelPlaces_of_straight straight]

/-- Each of the first blocks of a long enough message has 64 bytes. -/
theorem length_of_mem_blocksOf {q : Nat} {bs B : List Byte} (long : 64 * q ≤ bs.length) (h : B ∈ blocksOf q bs) :
    B.length = 64 := by
  induction q generalizing bs with
  | zero => simp [blocksOf] at h
  | succ q ih =>
    obtain rfl | h := List.mem_cons.1 h
    · simp; omega
    · exact ih (by simp; omega) h

/-- The lines of the procedure of R185 are legal, and none names a label or branches to one. -/
theorem procedure_lines (m : List Byte) : ∀ line ∈ procedure m, line.ok = true ∧ line.straight = true := by
  have full : ∀ B ∈ blocksOf (m.length / 64) m, B.length = 64 := fun B => length_of_mem_blocksOf (by omega)
  have tail : m.length - 64 * (m.length / 64) ≤ 63 := by omega
  have operand : m.length % 64 ≤ 63 := by omega
  simp only [procedure, List.forall_mem_append, List.forall_mem_cons, List.forall_mem_flatMap]
  simpa [AsmLine.ok, AsmLine.straight, tail, operand] using full

/-- Settles O49, clause by clause: sizes, places, legality, the expansions, and the procedure, whose lines use no
label. -/
theorem assemblerPlacesLabels : Obligations.AssemblerPlacesLabels := by
  unfold Obligations.AssemblerPlacesLabels
  refine ⟨fun _ _ _ _ => expand_length, fun pre l post fresh => ?_, fun pre line post p h => ?_,
    fun lines n big mem => assemble_eq_none mem (decide_eq_false (by omega)), fun labels pos => ?_,
    fun m => assemble_of_straight (procedure_lines m)⟩
  · simpa using lookup_labelPlaces fresh 0 post
  · simpa using expandAll_split (assemble_eq_some.1 h).2.2
  · refine ⟨fun _ _ => rfl, fun _ _ => rfl, fun k mask l p found => ?_, rfl, rfl, rfl, fun _ => rfl, rfl,
      fun bs len => ?_, fun bs len => ?_, rfl⟩
    · rw [AsmLine.expand, found, Option.map_some]
    · rw [AsmLine.expand, loadStmts_eq (by omega), len]
      rfl
    · rw [AsmLine.expand, loadStmts_eq (by omega)]
      rfl

end Sys2Proof.Machine
end

section
/-! SUPPORT. One step of the host at each statement of R79, and of the idle engine (R62, R184). -/

namespace Sys2Proof.Machine

/-- The host's turn at an RD inside the interface puts the value of its BusRead into the variable (R79). -/
theorem step_rd {s : State} {k : Fin 16} {a : BusAccess} (m : moveOf s = .host)
    (place : s.prog[s.hpc]? = some (.rd k a)) (inside : accessRefusal a = none) :
    step s =
      .next (nextStmt (setVar k (busRead (regAt a.off) (popMove s)).1 (busRead (regAt a.off) (popMove s)).2)) := by
  rw [step_stmt m place, runStmt, inside]

/-- The host's turn at a BNZ goes on at its target exactly when the masked variable is not 0 (R79). -/
theorem step_bnz {s : State} {k : Fin 16} {mask : Word} {p : Nat} (m : moveOf s = .host)
    (place : s.prog[s.hpc]? = some (.bnz k mask p)) :
    step s = .next (jumpTo (if s.vars[k] &&& mask = 0 then s.hpc + 1 else p) (popMove s)) := by
  rw [step_stmt m place, runStmt, popMove_vars]
  by_cases zero : s.vars[k] &&& mask = 0
  · rw [if_neg (not_not.2 zero), if_pos zero]
    rfl
  · rw [if_pos zero, if_neg zero]

/-- The engine's turn with nothing pending uses its entry of the schedule and does nothing else (R62). -/
theorem step_engine_idle {s : State} (m : moveOf s = .engine) (idle : s.pend = none) : step s = .next (popMove s) := by
  simp [step, m, runMove, engineMove, idle]

/-- Settles O47, statement by statement. -/
theorem stepRunsHostStatements : Obligations.StepRunsHostStatements := by
  unfold Obligations.StepRunsHostStatements
  intro s s'
  refine ⟨fun a v m place width burst aligned window => ?_, fun k a m place width burst aligned window => ?_,
    fun k mask p m place => step_bnz m place, fun m place => step_stmt m place, step_engine_idle⟩
  · exact step_wr m place (accessRefusal_eq_none.2 ⟨width, burst, aligned, window⟩)
  · obtain ⟨d, read⟩ := busRead_state (regAt a.off) (popMove s)
    refine ⟨_, step_rd m place (accessRefusal_eq_none.2 ⟨width, burst, aligned, window⟩), ?_, fun l ne => ?_, d, ?_⟩
    · simp [popMove, s']
    · have ne' : k.val ≠ l.val := fun e => ne (Fin.ext e.symm)
      simp [read, ne']
    · simp only [read]
      rfl

end Sys2Proof.Machine
end

section
/-! SUPPORT. The padder (40_padder.md): pad_len, the padded length, the tail and the length field. -/

namespace Sys2Proof.Machine

/-! ## pad_len (R102) -/

/-- The padding ends 8 bytes before the end of this block, or of the next one where there is no room in this one. -/
theorem padLen_eq (L : Nat) : padLen L = if L % 64 ≤ 55 then 56 - L % 64 else 120 - L % 64 := by
  simp only [padLen]
  split_ifs <;> omega

theorem padLen_pos (L : Nat) : 1 ≤ padLen L := by
  rw [padLen_eq]
  split_ifs <;> omega

/-- Settles O10, from the two halves of the block. -/
theorem padLengthCases : Obligations.PadLengthCases := by
  unfold Obligations.PadLengthCases
  intro L
  rw [padLen_eq]
  split_ifs <;> omega

/-! ## The padded length (R104, R105) -/

/-- Message, padding and length field fill whole blocks. -/
theorem add_padLen_add_eight (L : Nat) : L + padLen L + 8 = 64 * nblocks L := by
  rw [padLen_eq, nblocks]
  split_ifs <;> omega

/-- After the `q` full blocks of the message come one or two of padded tail (R105). -/
theorem nblocks_eq {n : Nat} (q : Nat) (h : n < 64) : nblocks (64 * q + n) = if n ≤ 55 then q + 1 else q + 2 := by
  unfold nblocks
  split_ifs <;> omega

@[simp] theorem padTail_length (tail : List Byte) (L : Nat) : (padTail tail L).length = tail.length + padLen L + 8 := by
  have pos := padLen_pos L
  simp only [padTail, List.length_append, List.length_singleton, zeroBytes_length, be64bytes_length]
  omega

/-- `pad` is `padtail` with nothing before the tail (R103, R106). -/
theorem pad_eq_padTail (m : List Byte) : pad m = padTail m m.length := rfl

@[simp] theorem pad_length (m : List Byte) : (pad m).length = 64 * nblocks m.length := by
  rw [pad_eq_padTail, padTail_length, add_padLen_add_eight]

/-- Settles O11: the padded buffer is whole blocks, and they are the message with its padding and length field. -/
theorem paddedLengthInvariants : Obligations.PaddedLengthInvariants := by
  unfold Obligations.PaddedLengthInvariants
  intro m
  have parts := add_padLen_add_eight m.length
  rw [pad_length]
  omega

/-- Settles O12, from the length in blocks and the blocks of the two kinds of tail. -/
theorem paddedBlockCount : Obligations.PaddedBlockCount := by
  unfold Obligations.PaddedBlockCount
  exact ⟨pad_length, fun q _ h => nblocks_eq q h⟩

/-! ## The tail (R106) -/

/-- What stands before the tail is not touched by the padding. -/
theorem padTail_append (a b : List Byte) (L : Nat) : padTail (a ++ b) L = a ++ padTail b L := by
  simp only [padTail, List.append_assoc]

theorem pad_eq_take_append (m : List Byte) (k : Nat) : pad m = m.take k ++ padTail (m.drop k) m.length := by
  rw [← padTail_append, List.take_append_drop, pad_eq_padTail]

/-- The message stands unchanged at the beginning of the padded buffer. -/
theorem pad_eq_append (m : List Byte) : pad m = m ++ padTail [] m.length := by
  rw [← padTail_append, List.append_nil, pad_eq_padTail]

/-- The padded tail of a message of `q` blocks and `n` bytes has one block, or two where the length field does not fit
into the first. -/
theorem padTail_drop_length {m : List Byte} {q n : Nat} (len : m.length = 64 * q + n) (h : n < 64) :
    (padTail (m.drop (64 * q)) m.length).length = if n ≤ 55 then 64 else 128 := by
  have parts := add_padLen_add_eight m.length
  have blocks := nblocks_eq q h
  rw [← len] at blocks
  rw [padTail_length, List.length_drop]
  split_ifs at blocks ⊢ <;> omega

/-- pad_len depends on nothing of the length but its remainder. -/
theorem padLen_congr {L L' : Nat} (h : L % 64 = L' % 64) : padLen L = padLen L' := by
  rw [padLen_eq, padLen_eq, h]

/-- Settles O13, clause by clause. -/
theorem paddingTouchesOnlyTail : Obligations.PaddingTouchesOnlyTail := by
  unfold Obligations.PaddingTouchesOnlyTail
  refine ⟨fun _ _ => rfl, fun m q n len h => ⟨pad_eq_take_append m _, padTail_drop_length len h, ?_⟩,
    fun _ _ => padLen_congr⟩
  rw [pad_eq_append]
  exact blocksOf_append q m _ (by omega)

/-! ## The length field (R101, R103) -/

/-- Reading the bytes of a word most significant first appends its value. -/
theorem foldl_be32bytes (x : Word) (acc : Nat) :
    (be32bytes x).foldl (fun acc b => acc * 256 + b.toNat) acc = acc * 2 ^ 32 + x.toNat := by
  have lt := x.isLt
  simp only [be32bytes, List.foldl_cons, List.foldl_nil, BitVec.extractLsb'_toNat, Nat.shiftRight_eq_div_pow]
  omega

/-- The big-endian value of the eight bytes of a number is the number (R10). -/
theorem foldl_be64bytes (v : DWord) : (be64bytes v).foldl (fun acc b => acc * 256 + b.toNat) 0 = v.toNat := by
  have lt := v.isLt
  simp only [be64bytes, List.foldl_append, foldl_be32bytes, BitVec.extractLsb'_toNat, Nat.shiftRight_eq_div_pow]
  omega

/-- In the padder's domain the bit length is not cut (R101, R107). -/
theorem bitLength_toNat {L : Nat} (h : L ≤ maxMsgBytes) : (bitLength L).toNat = 8 * L := by
  unfold maxMsgBytes at h
  rw [bitLength, BitVec.toNat_ofNat]
  omega

/-- Settles O14: the last eight bytes are those of the bit length, which is exact in the domain. -/
theorem lengthFieldIsExact : Obligations.LengthFieldIsExact := by
  unfold Obligations.LengthFieldIsExact
  intro m h
  refine ⟨padLen m.length - 1, be64bytes (bitLength m.length), ?_, be64bytes_length _, ?_⟩
  · rw [pad_eq_append]
    rfl
  · rw [foldl_be64bytes, bitLength_toNat h]

end Sys2Proof.Machine
end

section
/-! SUPPORT. The word mixer (41_word_mixer.md): the rotation, Ch and Maj bit by bit, the adder, the sigma table. -/

namespace Sys2Proof.Machine

/-! ## The rotation (R111) -/

/-- The rotation written with shifts is the library's. -/
theorem rotr_eq_rotateRight (x : Word) {n : Nat} (h : 0 < n ∧ n < 32) : rotr x n h = x.rotateRight n := by
  rw [BitVec.rotateRight_def, Nat.mod_eq_of_lt h.2, rotr]

/-- The bits below `32 - n` come down by `n`, and the bits from there on are those that fell out at the bottom. -/
theorem getLsbD_rotr (x : Word) {n k : Nat} (h : 0 < n ∧ n < 32) (hk : k < 32) :
    (rotr x n h).getLsbD k = x.getLsbD ((k + n) % 32) := by
  rw [rotr_eq_rotateRight, BitVec.getLsbD_rotateRight, Nat.mod_eq_of_lt h.2]
  by_cases low : k < 32 - n
  · have source : (k + n) % 32 = n + k := by omega
    simp [low, source]
  · have source : (k + n) % 32 = k - (32 - n) := by omega
    simp [low, hk, source]

/-- Settles O6: the shifts are the definition, and the bits are those of the rotation. -/
theorem rotrMovesBits : Obligations.RotrMovesBits := by
  unfold Obligations.RotrMovesBits
  exact fun x _ h => ⟨rfl, fun _ hk => getLsbD_rotr x h hk⟩

/-! ## Choose and majority (R115, R116) -/

/-- Bit k of `x` puts one of the two terms of Ch to 0 and lets the other through. -/
theorem getLsbD_Ch (x y z : Word) (k : Nat) :
    (Ch x y z).getLsbD k = if x.getLsbD k then y.getLsbD k else z.getLsbD k := by
  simp only [Ch, BitVec.getLsbD_xor, BitVec.getLsbD_and, BitVec.getLsbD_not]
  cases x.getLsbD k with
  | true => simp
  | false =>
    have inside : z.getLsbD k = true → k < 32 := BitVec.lt_of_getLsbD
    simpa using inside

/-- The gates of Maj on single bits answer 1 exactly where two of the three are 1. -/
theorem majGates_eq_true_iff (a b c : Bool) :
    ((a && b) ^^ (a && c) ^^ (b && c)) = true ↔ 2 ≤ a.toNat + b.toNat + c.toNat := by
  decide +revert

theorem getLsbD_Maj_eq_true_iff (x y z : Word) (k : Nat) :
    (Maj x y z).getLsbD k = true ↔ 2 ≤ (x.getLsbD k).toNat + (y.getLsbD k).toNat + (z.getLsbD k).toNat := by
  simp only [Maj, BitVec.getLsbD_xor, BitVec.getLsbD_and, majGates_eq_true_iff]

/-- Settles O7: the gates are the definitions, and each bit of a result is that of the gates on the bits. -/
theorem chooseAndMajorityBits : Obligations.ChooseAndMajorityBits := by
  unfold Obligations.ChooseAndMajorityBits
  exact fun x y z => ⟨rfl, rfl, fun k => ⟨getLsbD_Ch x y z k, getLsbD_Maj_eq_true_iff x y z k⟩⟩

/-! ## The adder (R114) -/

/-- Each addition wraps, so the sum from `acc` on is the sum of the values modulo 2^32. -/
theorem toNat_foldl_add (xs : List Word) (acc : Word) :
    (xs.foldl (· + ·) acc).toNat = (acc.toNat + (xs.map BitVec.toNat).sum) % 2 ^ 32 := by
  induction xs generalizing acc with
  | nil => simp [Nat.mod_eq_of_lt acc.isLt]
  | cons x xs ih =>
    rw [List.foldl_cons, ih, BitVec.toNat_add, Nat.mod_add_mod, List.map_cons, List.sum_cons, Nat.add_assoc]

theorem addAll_toNat (xs : List Word) : (addAll xs).toNat = (xs.map BitVec.toNat).sum % 2 ^ 32 := by
  simp [addAll, toNat_foldl_add]

/-- The sum of the values does not depend on the order of the terms, so neither does the wrapped sum. -/
theorem addAll_perm {xs ys : List Word} (h : xs.Perm ys) : addAll xs = addAll ys := by
  apply BitVec.eq_of_toNat_eq
  rw [addAll_toNat, addAll_toNat, (h.map BitVec.toNat).sum_eq]

/-- Settles O8: the value of the wrapped sum, and its independence of the order. -/
theorem adderIsSumModulo : Obligations.AdderIsSumModulo := by
  unfold Obligations.AdderIsSumModulo
  exact fun xs _ => ⟨addAll_toNat xs, addAll_perm⟩

/-! ## The sigma table (R112, R117 to R121) -/

/-- Settles O9: the functions are evaluated at the operands of the table. -/
theorem sigmaTable : Obligations.SigmaTable := by
  unfold Obligations.SigmaTable
  decide

end Sys2Proof.Machine
end

section
/-! SUPPORT. The message schedule (42_message_schedule.md): what each step of the expansion writes, and what the
finished schedule holds. -/

namespace Sys2Proof.Machine

/-! ## The expansion, word by word -/

/-- Before the expansion the first sixteen words are the block's (R131). -/
theorem scheduleUpTo_zero_getD (block : List Byte) {j : Nat} (h : j < 16) :
    (scheduleUpTo block 0).getD j 0 = packWord block j := by
  simp [scheduleUpTo, Vector.getD, show j < 64 by omega, h]

/-- The step for W[16+k] writes it from the words before (R132). -/
theorem scheduleUpTo_succ_getD_same (block : List Byte) {k : Nat} (h : k < 48) :
    (scheduleUpTo block (k + 1)).getD (16 + k) 0 = scheduleWord (scheduleUpTo block k) k := by
  simp [scheduleUpTo, Vector.getD, show 16 + k < 64 by omega]

/-- The step for W[16+k] leaves every other word. -/
theorem scheduleUpTo_succ_getD_of_ne (block : List Byte) {k t : Nat} (h : 16 + k ≠ t) :
    (scheduleUpTo block (k + 1)).getD t 0 = (scheduleUpTo block k).getD t 0 := by
  simp [scheduleUpTo, Vector.getD, h]

/-- A word in place is not written again. -/
theorem scheduleUpTo_getD_of_le (block : List Byte) {k n t : Nat} (h : k ≤ n) (placed : t < 16 + k) :
    (scheduleUpTo block n).getD t 0 = (scheduleUpTo block k).getD t 0 := by
  induction n, h using Nat.le_induction with
  | base => rfl
  | succ n le ih => rw [scheduleUpTo_succ_getD_of_ne block (by omega), ih]

/-! ## The finished schedule (R131, R132) -/

/-- The finished schedule holds each word as it was when it was put in place. -/
theorem schedule_getD (block : List Byte) {k t : Nat} (h : k ≤ 48) (placed : t < 16 + k) :
    (schedule block).getD t 0 = (scheduleUpTo block k).getD t 0 := by
  unfold schedule
  exact scheduleUpTo_getD_of_le block h placed

theorem schedule_getD_eq_packWord (block : List Byte) {j : Nat} (h : j < 16) :
    (schedule block).getD j 0 = packWord block j := by
  rw [schedule_getD block (Nat.zero_le 48) h, scheduleUpTo_zero_getD block h]

/-- The recurrence holds in the finished schedule, since the four words it reads keep their values. -/
theorem schedule_getD_eq_scheduleWord (block : List Byte) {k : Nat} (h : k < 48) :
    (schedule block).getD (16 + k) 0 = scheduleWord (schedule block) k := by
  have kept : ∀ t < 16 + k, (schedule block).getD t 0 = (scheduleUpTo block k).getD t 0 :=
    fun t placed => schedule_getD block h.le placed
  rw [schedule_getD block (k := k + 1) h (by omega), scheduleUpTo_succ_getD_same block h, scheduleWord, scheduleWord,
    kept k (by omega), kept (k + 1) (by omega), kept (k + 9) (by omega), kept (k + 14) (by omega)]

/-- Settles O15: the first words are packed from the block, and packing undoes the unpacking of BLK. -/
theorem scheduleFirstWords : Obligations.ScheduleFirstWords := by
  unfold Obligations.ScheduleFirstWords
  refine ⟨fun block j _ h => schedule_getD_eq_packWord block h, fun x j => ?_⟩
  rw [schedule_getD_eq_packWord _ j.isLt, packWord_flatMap _ _ (by simp)]
  simp

/-- Settles O16: the word at `i` is that of step `i - 16`. -/
theorem scheduleRecurrence : Obligations.ScheduleRecurrence := by
  unfold Obligations.ScheduleRecurrence
  intro block i low high
  obtain ⟨k, rfl⟩ := Nat.exists_eq_add_of_le low
  have at16 : 16 + k - 16 = k := by omega
  have at15 : 16 + k - 15 = k + 1 := by omega
  have at7 : 16 + k - 7 = k + 9 := by omega
  have at2 : 16 + k - 2 = k + 14 := by omega
  simp only [at16, at15, at7, at2]
  exact schedule_getD_eq_scheduleWord block (by omega)

end Sys2Proof.Machine
end

section
/-! SUPPORT. The compressor (43_compressor.md): the terms of a round, the frame of the engine's datapath over one block,
and the blocks of a buffer that begins with whole blocks. -/

namespace Sys2Proof.Machine

/-! ## One round (R143) -/

/-- T1 is the five terms added from left to right. -/
theorem roundT1_eq (t : Nat) (v : WorkVars) (wt : Word) :
    roundT1 t v wt = v.h + bigSigma1 v.e + Ch v.e v.f v.g + K.getD t 0 + wt := by
  simp [roundT1, addAll]

/-- Settles O17: the sums are T1 and T2, and the functions of the mixer are the rule's terms by definition. -/
theorem roundWritesVariables : Obligations.RoundWritesVariables := by
  unfold Obligations.RoundWritesVariables
  intro t a b c d e f g h w _
  simp only [shaRound, roundT1_eq]
  rfl

/-! ## One block (R144) -/

theorem compressBlock_eq_rounds (h : Vector Word 8) (block : List Byte) :
    compressBlock h block = addBack h (rounds (schedule block) (seedVars h) 64) := by
  unfold compressBlock allRounds
  rfl

/-- The engine's datapath writes H, W and a..h only, and H as the compressor says. -/
theorem engineCompress_eq (s : State) (block : List Byte) :
    ∃ w wv, engineCompress s block = { s with h := compressBlock s.h block, w := w, wv := wv } :=
  foldl_engineCompress [block] s

/-- Settles O18: the value is the definition's, and the engine leaves that value in H. -/
theorem blockCompressionAddsBack : Obligations.BlockCompressionAddsBack := by
  unfold Obligations.BlockCompressionAddsBack
  intro s block
  obtain ⟨w, wv, written⟩ := engineCompress_eq s block
  rw [compressBlock_eq_rounds] at written
  exact ⟨compressBlock_eq_rounds s.h block, w, wv, written⟩

/-! ## A buffer (R145, R146) -/

@[simp] theorem compress_nil : compress [] = H0 := rfl

/-- A buffer that begins with `q` whole blocks is cut into those and the blocks of the rest. -/
theorem blocksOf_whole_append {q : Nat} {a : List Byte} (whole : a.length = 64 * q) (r : Nat) (b : List Byte) :
    blocksOf (q + r) (a ++ b) = blocksOf q a ++ blocksOf r b := by
  rw [blocksOf_add, blocksOf_append q a b whole.ge, List.drop_left' whole]

/-- Settles O19: the blocks of `a` are folded first, and the fold over those of `b` goes on from there. -/
theorem compressionContinues : Obligations.CompressionContinues := by
  unfold Obligations.CompressionContinues
  refine ⟨compress_nil, fun a b aligned => ?_⟩
  have whole : a.length = 64 * (a.length / 64) := by omega
  have count : (a ++ b).length / 64 = a.length / 64 + b.length / 64 := by rw [List.length_append]; omega
  rw [compress, count, blocksOf_whole_append whole, List.foldl_append, ← compress]

end Sys2Proof.Machine
end

section
/-! SUPPORT. The output encoder (44_output_encoder.md): the bytes of the digest, the two digits of a byte, and the words
of HEX as pairs, one pair a word of H. -/

namespace Sys2Proof.Machine

/-! ## The digest bytes (R160) -/

theorem be32bytes_getD (x : Word) {k : Nat} (h : k < 4) : (be32bytes x).getD k 0 = x.extractLsb' (24 - 8 * k) 8 := by
  interval_cases k <;> rfl

theorem finalize_getD (h : Vector Word 8) (i : Fin 8) {k : Nat} (hk : k < 4) :
    (finalize h).getD (4 * i.val + k) 0 = h[i].extractLsb' (24 - 8 * k) 8 := by
  rw [List.getD_eq_getElem?_getD, finalize, flatMap_be32bytes_getElem? h.toList i.val k hk (by simp), Option.getD_some,
    be32bytes_getD _ hk]
  simp

/-- Settles O20: the digest is the words unpacked in order. -/
theorem finalizeIsBigEndian : Obligations.FinalizeIsBigEndian := by
  unfold Obligations.FinalizeIsBigEndian
  exact fun h => ⟨finalize_length h, fun i _ hk => finalize_getD h i hk⟩

/-! ## Sequences made of pairs

The digits of a byte sequence and the words of HEX are both two entries for each entry of another sequence. -/

/-- Entries 2i and 2i + 1 are the pair of entry `i`. -/
theorem getElem?_flatMap_pair {α β : Type} (f g : α → β) (l : List α) (i : Nat) :
    (l.flatMap fun x => [f x, g x])[2 * i]? = l[i]?.map f ∧
    (l.flatMap fun x => [f x, g x])[2 * i + 1]? = l[i]?.map g := by
  induction l generalizing i with
  | nil => simp
  | cons x l ih =>
    cases i with
    | zero => simp
    | succ i => simpa [Nat.mul_succ] using ih i

/-! ## The digits (R161, R162) -/

/-- The high nibble of a byte is its value divided by 16. -/
theorem highNibble_eq (b : Byte) : b.extractLsb' 4 4 = BitVec.ofNat 4 (b.toNat / 16) := by
  apply BitVec.eq_of_toNat_eq
  simp [Nat.shiftRight_eq_div_pow]

/-- The low nibble of a byte is its value modulo 16. -/
theorem lowNibble_eq (b : Byte) : b.extractLsb' 0 4 = BitVec.ofNat 4 (b.toNat % 16) := by
  apply BitVec.eq_of_toNat_eq
  simp

/-- Each digit of the table, and its ASCII code. -/
theorem hexdig_table (v : BitVec 4) :
    hexdig v = "0123456789abcdef".toList.getD v.toNat '?' ∧
    (charCode (hexdig v)).toNat = if v.toNat < 10 then 0x30 + v.toNat else 0x61 + (v.toNat - 10) := by
  decide +revert

/-- Settles O21: a byte's two digits are a pair, and the digit table is finite. -/
theorem hexDigitsOfBytes : Obligations.HexDigitsOfBytes := by
  unfold Obligations.HexDigitsOfBytes
  refine ⟨fun bs => ⟨toHex_length bs, fun i h => ?_⟩, hexdig_table⟩
  rw [← highNibble_eq, ← lowNibble_eq]
  simp [toHex, getElem?_flatMap_pair, h]

/-! ## The digest string (R163, R164) -/

/-- Every character of a hex string is a digit of some value. -/
theorem exists_hexdig_of_mem_toHex {c : Char} {bs : List Byte} (h : c ∈ toHex bs) : ∃ v, hexdig v = c := by
  obtain ⟨b, -, mem⟩ := List.mem_flatMap.mp h
  rcases List.mem_pair.mp mem with rfl | rfl
  · exact ⟨_, rfl⟩
  · exact ⟨_, rfl⟩

theorem hexdig_lowercase (v : BitVec 4) :
    ('0' ≤ hexdig v ∧ hexdig v ≤ '9') ∨ ('a' ≤ hexdig v ∧ hexdig v ≤ 'f') := by
  decide +revert

/-- Settles O22: 32 bytes make 64 characters, and each is a digit. -/
theorem digestIsSixtyFourLowercase : Obligations.DigestIsSixtyFourLowercase := by
  unfold Obligations.DigestIsSixtyFourLowercase
  refine fun m => ⟨by simp [sha256Hex], fun c mem => ?_⟩
  obtain ⟨v, rfl⟩ := exists_hexdig_of_mem_toHex mem
  exact hexdig_lowercase v

/-! ## The registers HEX (R165) -/

/-- The codes of the eight hex characters of a word. -/
def wordCodes (x : Word) : List Byte := (toHex (be32bytes x)).map charCode

/-- The two words of HEX that belong to one word of H. -/
def hexPair (x : Word) : List Word := [packWord (wordCodes x) 0, packWord (wordCodes x) 1]

/-- Unpacking the pair gives back the eight codes packed into it. -/
theorem flatMap_hexPair (x : Word) : (hexPair x).flatMap be32bytes = wordCodes x := by
  simp only [hexPair, packWord, List.flatMap_cons, List.flatMap_nil, be32bytes_of_be32]
  simp [wordCodes, toHex, be32bytes]

/-- The codes of the digest string are those of the words of H in order. -/
theorem map_charCode_toHex_finalize (h : Vector Word 8) :
    (toHex (finalize h)).map charCode = (h.toList.flatMap hexPair).flatMap be32bytes := by
  simp only [List.flatMap_assoc, flatMap_hexPair, wordCodes, finalize, toHex, List.map_flatMap]

theorem hexWords_getElem (h : Vector Word 8) (j : Nat) (hj : j < 16) :
    (hexWords h)[j] = packWord ((toHex (finalize h)).map charCode) j := by
  simp [hexWords]

/-- HEX holds one pair of words for each word of H. -/
theorem hexWords_toList (h : Vector Word 8) : (hexWords h).toList = h.toList.flatMap hexPair := by
  have len : (h.toList.flatMap hexPair).length = 16 := by simp [hexPair]
  refine List.ext_getElem (by simp [len]) fun j _ hj => ?_
  rw [Vector.getElem_toList, hexWords_getElem h j (by omega), map_charCode_toHex_finalize, packWord_flatMap _ j hj]

/-- HEX unpacked is the codes of the digest string in order. -/
theorem flatMap_hexWords (h : Vector Word 8) :
    (hexWords h).toList.flatMap be32bytes = (toHex (finalize h)).map charCode := by
  rw [hexWords_toList, map_charCode_toHex_finalize]

/-- Inside a string of characters, a packed word is four of their codes. -/
theorem packWord_map_charCode (cs : List Char) {j : Nat} (h : 4 * j + 3 < cs.length) :
    packWord (cs.map charCode) j = be32 (charCode (cs.getD (4 * j) '?')) (charCode (cs.getD (4 * j + 1) '?'))
      (charCode (cs.getD (4 * j + 2) '?')) (charCode (cs.getD (4 * j + 3) '?')) := by
  have code : ∀ k < cs.length, (cs.map charCode).getD k 0 = charCode (cs.getD k '?') := by
    intro k hk
    simp [hk]
  rw [packWord, code _ (by omega), code _ (by omega), code _ (by omega), code _ h]

/-- A digit is read back from its code. -/
theorem ofNat_charCode_hexdig (v : BitVec 4) : Char.ofNat (charCode (hexdig v)).toNat = hexdig v := by
  decide +revert

theorem hexChars_hexWords (h : Vector Word 8) : hexChars (hexWords h) = toHex (finalize h) := by
  rw [hexChars, flatMap_hexWords, List.map_map]
  refine (List.map_congr_left fun c mem => ?_).trans (List.map_id _)
  obtain ⟨v, rfl⟩ := exists_hexdig_of_mem_toHex mem
  exact ofNat_charCode_hexdig v

theorem hexWords_getD (h : Vector Word 8) (k : Nat) :
    (hexWords h).getD k 0 = (h.toList.flatMap hexPair).getD k 0 := by
  rw [← hexWords_toList]
  simp [Vector.getD]

/-- The pair of HEX words of H[i] unpacks to the codes of its characters. -/
theorem hexWords_pair (h : Vector Word 8) (i : Fin 8) :
    be32bytes ((hexWords h).getD (2 * i.val) 0) ++ be32bytes ((hexWords h).getD (2 * i.val + 1) 0) =
      wordCodes h[i] := by
  rw [hexWords_getD, hexWords_getD, ← flatMap_hexPair]
  unfold hexPair
  simp [getElem?_flatMap_pair]

theorem charCode_hexdig_range (v : BitVec 4) :
    (0x30 ≤ (charCode (hexdig v)).toNat ∧ (charCode (hexdig v)).toNat ≤ 0x39) ∨
    (0x61 ≤ (charCode (hexdig v)).toNat ∧ (charCode (hexdig v)).toNat ≤ 0x66) := by
  have code := (hexdig_table v).2
  have value := v.isLt
  split_ifs at code <;> omega

/-- Settles O23: HEX unpacked is the codes of the digest string, and every character of that is a digit. -/
theorem hexRegistersHoldDigits : Obligations.HexRegistersHoldDigits := by
  unfold Obligations.HexRegistersHoldDigits
  refine fun h => ⟨fun j => ?_, hexChars_hexWords h, hexWords_pair h, fun b mem => ?_⟩
  · exact (hexWords_getElem h j.val j.isLt).trans (packWord_map_charCode _ (by simp; omega))
  · rw [flatMap_hexWords] at mem
    obtain ⟨c, digit, rfl⟩ := List.mem_map.mp mem
    obtain ⟨v, rfl⟩ := exists_hexdig_of_mem_toHex digit
    exact charCode_hexdig_range v

/-! ## The known answers (R163, 90_conflicts.md C1) -/

theorem compress_pad_abc : compress (pad [0x61, 0x62, 0x63]) =
    #v[0xba7816bf, 0x8f01cfea, 0x414140de, 0x5dae2223, 0xb00361a3, 0x96177a9c, 0xb410ff61, 0xf20015ad] := by
  decide +kernel

theorem compress_pad_nil : compress (pad []) =
    #v[0xe3b0c442, 0x98fc1c14, 0x9afbf4c8, 0x996fb924, 0x27ae41e4, 0x649b934c, 0xa495991b, 0x7852b855] := by
  decide +kernel

/-- Settles O24: each of the two messages is one block, and the model is run on it. -/
theorem knownAnswers : Obligations.KnownAnswers := by
  unfold Obligations.KnownAnswers
  exact ⟨compress_pad_abc, compress_pad_nil⟩

end Sys2Proof.Machine
end

section
/-! SUPPORT. What a host read of each register returns (R178 to R183, R230), and what a BLK write does (R177). -/

namespace Sys2Proof.Machine

/-! ## Reads -/

/-- A read the spec fixes leaves the state as it is (R57). -/
theorem busRead_of_exact {r : Reg} {s : State} {v : Word} (h : readExact r s = some v) : busRead r s = (v, s) := by
  rw [busRead, h]

/-- Any other read takes the next draw (R57). -/
theorem busRead_of_draw {r : Reg} {s : State} (h : readExact r s = none) :
    busRead r s = (Config.drawWord s.drawCount, useDraws 1 s) := by
  rw [busRead, h]

/-- Settles O38: a read of STATUS is exact, and its fields are eight bits, so each of their values is tried. -/
theorem statusReadsItsFields : Obligations.StatusReadsItsFields := by
  unfold Obligations.StatusReadsItsFields
  intro s up
  rw [busRead_of_exact (v := statusWord s) (by simp [readExact, up])]
  simp only [statusWord, flagBit]
  generalize s.busy = busy, s.active = active, s.done = done, s.err = err, s.errcode = errcode
  clear up s
  decide +revert

/-- Settles O39, register by register; the two halves of TOTAL make up its value. -/
theorem readsReturnTheRegister : Obligations.ReadsReturnTheRegister := by
  unfold Obligations.ReadsReturnTheRegister
  intro s up
  refine ⟨fun j written => ?_, fun i free written => ?_, fun j free done => ?_, fun free => ?_, ?_⟩
  · rw [busRead_of_exact (v := s.blk[j]) (by simp [readExact, up, written])]
  · rw [busRead_of_exact (v := s.h[i]) (by simp [readExact, up, free, written])]
  · rw [busRead_of_exact (v := s.hex[j]) (by simp [readExact, up, free, done])]
  · have lt := s.total.isLt
    rw [busRead_of_exact (v := s.total.extractLsb' 32 32) (by simp [readExact, up, free]),
      busRead_of_exact (v := s.total.extractLsb' 0 32) (by simp [readExact, up, free])]
    simp only [BitVec.extractLsb'_toNat, Nat.shiftRight_eq_div_pow]
    omega
  · rw [busRead_of_exact (v := 0) (by simp [readExact, up])]

/-- Settles O40: each case is one where the spec fixes no value. -/
theorem otherReadsAreDraws : Obligations.OtherReadsAreDraws := by
  unfold Obligations.OtherReadsAreDraws
  intro s r h
  refine busRead_of_draw ?_
  obtain down | ⟨j, rfl, unwritten⟩ | ⟨i, rfl, busy | unwritten⟩ | ⟨j, rfl, busy | unpublished⟩ |
    ⟨rfl | rfl, busy⟩ := h
  · simp [readExact, down]
  · simp [readExact, unwritten]
  · simp [readExact, busy]
  · simp [readExact, unwritten]
  · simp [readExact, busy]
  · simp [readExact, unpublished]
  · simp [readExact, busy]
  · simp [readExact, busy]

/-! ## Writes of BLK -/

theorem busWrite_blk_dropped (j : Fin 16) (v : Word) {s : State} (up : s.rst = false) (busy : s.busy = true) :
    busWrite (.blk j) v s = .next (raiseErr .busy s) := by
  simp [busWrite, blkWrite, up, busy]

theorem busWrite_blk_stored (j : Fin 16) (v : Word) {s : State} (up : s.rst = false) (free : s.busy = false) :
    busWrite (.blk j) v s = .next (storeBlk j v s) := by
  simp [busWrite, blkWrite, up, free]

theorem storeBlk_blk_of_ne {j k : Fin 16} (ne : k ≠ j) (v : Word) (s : State) :
    (storeBlk j v s).blk[k] = s.blk[k] ∧ (storeBlk j v s).blkw[k] = s.blkw[k] := by
  have ne' : j.val ≠ k.val := fun e => ne (Fin.ext e.symm)
  simp [ne']

/-- Settles O43, the BUSY window first. -/
theorem blkWriteStoresOrIsDropped : Obligations.BlkWriteStoresOrIsDropped := by
  unfold Obligations.BlkWriteStoresOrIsDropped
  intro s j v up
  refine ⟨busWrite_blk_dropped j v up, fun free => ⟨storeBlk j v s, busWrite_blk_stored j v up free, rfl, ?_, ?_⟩⟩
  · exact busRead_of_exact (by simp [readExact, up])
  · exact fun k ne => storeBlk_blk_of_ne ne v s

end Sys2Proof.Machine
end

section
/-! SUPPORT. The commands (45_commands.md): the acceptance of each, every CMD write with its checks in order, and the
steps that run a command. -/

namespace Sys2Proof.Machine

/-! ## Acceptance (R171) -/

/-- BLOCK and FINAL with BUSY = 0: the checks on ACTIVE and on the room for `k` bytes, and then the latch (R171). -/
def checkedLatch (i : Instr) (k : Nat) (s : State) : State :=
  if s.active = false then raiseErr .seq s
  else if s.total.toNat + k > maxMsgBytes then raiseErr .len s
  else latch i s

theorem checkedLatch_of_room {i : Instr} {k : Nat} {s : State} (act : s.active = true)
    (room : s.total.toNat + k ≤ maxMsgBytes) : checkedLatch i k s = latch i s := by
  simp [checkedLatch, act, room]

theorem checkedLatch_of_no_room {i : Instr} {k : Nat} {s : State} (act : s.active = true)
    (full : s.total.toNat + k > maxMsgBytes) : checkedLatch i k s = raiseErr .len s := by
  simp [checkedLatch, act, full]

/-- INIT in the phase IDLE makes no check of its own (R173). -/
theorem exec_init_of_idle {s : State} (idle : s.pend = none) (free : s.busy = false) :
    exec .init s = .next (latch .init (openComputation (clearErr s))) := by
  rw [exec, execInit, commandStep_other _ _ (by simp [idle]), submitInit, free, if_neg Bool.false_ne_true]

theorem exec_block_of_idle {s : State} (idle : s.pend = none) (free : s.busy = false) :
    exec .block s = .next (checkedLatch .block 64 s) := by
  rw [exec, execBlock, commandStep_other _ _ (by simp [idle])]
  simp [submitBlock, checkedLatch, free]

theorem exec_final_of_idle (n : Nat) {s : State} (idle : s.pend = none) (free : s.busy = false) :
    exec (.final n) s = .next (checkedLatch (.final n) n s) := by
  rw [exec, execFinal, commandStep_other _ _ (by simp [idle])]
  simp [submitFinal, checkedLatch, free]

/-- In the invariant BUSY = 0 while nothing is pending (R37). -/
theorem State.Inv.busy_of_idle {s : State} (hs : s.Inv) (idle : s.pend = none) : s.busy = false := by
  simpa [idle] using hs.busy_pend

/-- Settles O25. -/
theorem initIsAccepted : Obligations.InitIsAccepted := by
  unfold Obligations.InitIsAccepted
  exact fun s idle free => exec_init_of_idle idle free

/-- Settles O26: the computation is open and has room, so both checks pass. -/
theorem blockIsAccepted : Obligations.BlockIsAccepted := by
  unfold Obligations.BlockIsAccepted
  intro s idle free act room
  rw [exec_block_of_idle idle free, checkedLatch_of_room act room]
  rfl

/-- Settles O27: an open computation has absorbed at most 2^61 - 64 bytes, which leaves room for any tail. -/
theorem finalIsAccepted : Obligations.FinalIsAccepted := by
  unfold Obligations.FinalIsAccepted
  intro s n hs small idle act
  obtain ⟨-, le⟩ := hs.active_total act
  have room : s.total.toNat + n ≤ maxMsgBytes := by unfold maxMsgBytes; omega
  rw [exec_final_of_idle n idle (hs.busy_of_idle idle), checkedLatch_of_room act room]
  rfl

/-- Settles O31: TOTAL is a multiple of 64 of at most 2^61 - 64, so only at that value is there no room for a block. -/
theorem lengthLimitIsReachedOnlyByBlock : Obligations.LengthLimitIsReachedOnlyByBlock := by
  unfold Obligations.LengthLimitIsReachedOnlyByBlock
  intro s n hs idle act small
  refine ⟨?_, finalIsAccepted s n hs small idle act⟩
  obtain ⟨mult, le⟩ := hs.active_total act
  rw [exec_block_of_idle idle (hs.busy_of_idle idle)]
  by_cases limit : s.total.toNat = 2 ^ 61 - 64
  · rw [if_pos limit, checkedLatch_of_no_room act (by unfold maxMsgBytes; omega)]
    rfl
  · rw [if_neg limit, checkedLatch_of_room act (by unfold maxMsgBytes; omega)]
    rfl

/-! ## CMD writes (R171, R207) -/

/-- A CMD write while BUSY = 1 records BUSY, whatever the word (R171, R204). -/
theorem busWrite_cmd_busy (w : Word) {s : State} (up : s.rst = false) (busy : s.busy = true) :
    busWrite .cmd w s = .next (raiseErr .busy s) := by
  simp [busWrite, cmdWrite, up, busy]

/-- A CMD write while BUSY = 0 runs the command its word spells (R171). -/
theorem busWrite_cmd_decoded {w : Word} {i : Instr} {s : State} (up : s.rst = false) (free : s.busy = false)
    (dec : decode w = .ok i) : busWrite .cmd w s = exec i s := by
  simp [busWrite, cmdWrite, up, free, dec]

/-- Settles O28, check by check. -/
theorem cmdWriteChecksInOrder : Obligations.CmdWriteChecksInOrder := by
  unfold Obligations.CmdWriteChecksInOrder
  intro w s up agree err
  cases busy : s.busy with
  | true => exact busWrite_cmd_busy w up busy
  | false =>
    have idle : s.pend = none := by simpa [busy] using agree
    cases dec : decode w with
    | error e => exact busWrite_illegal dec busy up
    | ok i =>
      rw [busWrite_cmd_decoded up busy dec]
      cases i with
      | init => exact exec_init_of_idle idle busy
      | block => exact exec_block_of_idle idle busy
      | final n => exact exec_final_of_idle n idle busy

/-! ## Steps that run a command (R62, R171, R172) -/

/-- Settles O45: the statement is an access inside the interface, to CMD. -/
theorem stepRunsWrittenCommand : Obligations.StepRunsWrittenCommand := by
  unfold Obligations.StepRunsWrittenCommand
  intro s w i m place up free dec
  rw [step_wr m place (by decide), regAt_eq_cmd.2 rfl]
  exact busWrite_cmd_decoded up free dec

/-- The engine's turn is the command the latch holds (R172). -/
theorem engineMove_pending {i : Instr} {s : State} (up : s.rst = false) (pending : s.pend = some i) :
    engineMove s = exec i s := by
  simp [engineMove, up, pending]

/-- Settles O46. -/
theorem stepRunsPendingCommand : Obligations.StepRunsPendingCommand := by
  unfold Obligations.StepRunsPendingCommand
  intro s i m up pending
  rw [step, m]
  exact engineMove_pending (s := popMove s) up pending

end Sys2Proof.Machine
end

section
/-! SUPPORT. The completion of a command (R172 to R176): what each one writes, and the bytes of BLK it reads. -/

namespace Sys2Proof.Machine

/-! ## The bytes the engine reads (R174, R175) -/

/-- Byte 4j + k of the block is byte k of its word j (R58, R174). -/
theorem blockBytes_getElem? (s : State) (j : Fin 16) {k : Nat} (hk : k < 4) :
    (blockBytes s)[4 * j.val + k]? = some ((be32bytes (blockWord s j)).getD k 0) := by
  rw [blockBytes, flatMap_be32bytes_getElem? _ _ _ hk (by simp), blockWords_getElem]

/-- Byte 4j + k of the tail is byte k of word j (R175). -/
theorem tailBytes_getElem? {n : Nat} (s : State) (j : Fin 16) {k : Nat} (hk : k < 4) (inside : 4 * j.val + k < n) :
    (tailBytes n s)[4 * j.val + k]? = some ((be32bytes (blockWord s j)).getD k 0) := by
  rw [tailBytes_eq_take, List.getElem?_take_of_lt inside, blockBytes_getElem? s j hk]

theorem tailBytes_length_of_le {n : Nat} (s : State) (small : n ≤ 64) : (tailBytes n s).length = n := by
  simp [tailBytes_eq_take, small]

/-- A sequence of `n` bytes is the tail of FINAL N if it agrees with the words byte by byte. -/
theorem tailBytes_eq {n : Nat} {s : State} {bs : List Byte} (small : n ≤ 64) (len : bs.length = n)
    (agree : ∀ (j : Fin 16) (k : Nat), k < 4 → 4 * j.val + k < n →
      bs[4 * j.val + k]? = some ((be32bytes (blockWord s j)).getD k 0)) : tailBytes n s = bs := by
  have len' := tailBytes_length_of_le s small
  refine List.ext_getElem? fun i => ?_
  by_cases inside : i < n
  · have place : i = 4 * (⟨i / 4, by omega⟩ : Fin 16).val + i % 4 := by simp only; omega
    rw [place, tailBytes_getElem? s _ (by omega) (by omega), agree _ _ (by omega) (by omega)]
  · rw [List.getElem?_eq_none (by omega), List.getElem?_eq_none (by omega)]

/-- Where the host has written the words, the tail is the first bytes of BLK. -/
theorem tailBytes_of_written {n : Nat} {s : State} (small : n ≤ 64)
    (written : ∀ j : Fin 16, j.val < (n + 3) / 4 → s.blkw[j] = true) :
    tailBytes n s = (s.blk.toList.flatMap be32bytes).take n := by
  refine tailBytes_eq small (by simp; omega) fun j k hk inside => ?_
  rw [List.getElem?_take_of_lt inside, flatMap_be32bytes_getElem? _ _ _ hk (by simp),
    blockWord_written s j (written j (by omega))]
  simp

/-- The whole block is the tail of 64 bytes. -/
theorem blockBytes_eq_tailBytes (s : State) : blockBytes s = tailBytes 64 s := by
  rw [tailBytes_eq_take, List.take_of_length_le (by simp)]

theorem blockBytes_of_written {s : State} (written : ∀ j : Fin 16, s.blkw[j] = true) :
    blockBytes s = s.blk.toList.flatMap be32bytes := by
  rw [blockBytes_eq_tailBytes, tailBytes_of_written le_rfl fun j _ => written j, List.take_of_length_le (by simp)]

/-! ## What each completion writes (R172 to R175) -/

/-- The pending command completes, and its latch empties (R172). -/
theorem exec_pending {i : Instr} {s : State} (pending : s.pend = some i) :
    exec i s = .next (finish (completeState i s)) := by
  rw [exec_eq, execState_pending pending]

/-- Settles O32. -/
theorem initCompletes : Obligations.InitCompletes := by
  unfold Obligations.InitCompletes
  exact fun s pending => exec_pending pending

/-- Settles O33. -/
theorem blockCompletes : Obligations.BlockCompletes := by
  unfold Obligations.BlockCompletes
  intro s pending
  refine ⟨?_, blockBytes_of_written⟩
  obtain ⟨w, wv, completed⟩ := completeBlock_eq s
  have total : BitVec.ofNat 64 (s.total.toNat + 64) = s.total + 64 := by simp [BitVec.ofNat_add]
  refine ⟨w, wv, s.drawCount + 16, ?_⟩
  rw [exec_pending pending, completeState, completed, total]
  rfl

/-- An open computation has absorbed whole blocks, so the padded tail is one block, or two where the length field does
not fit into the first (R106, R175). -/
theorem finalBlocks_eq {n : Nat} {s : State} (small : n ≤ 63) (whole : s.total.toNat % 64 = 0) :
    finalBlocks n s =
      blocksOf (if n ≤ 55 then 1 else 2) (padTail (tailBytes n s) (s.total.toNat + n)) := by
  have remainder : (s.total.toNat + n) % 64 = n := by omega
  have count : (padTail (tailBytes n s) (s.total.toNat + n)).length / 64 = if n ≤ 55 then 1 else 2 := by
    rw [padTail_length, tailBytes_length n s small, padLen_eq, remainder]
    split_ifs <;> omega
  simp only [finalBlocks, count]

/-- Settles O34: in the invariant TOTAL is whole blocks while a FINAL is pending. -/
theorem finalCompletes : Obligations.FinalCompletes := by
  unfold Obligations.FinalCompletes
  intro s n hs pending
  obtain ⟨small, act, -⟩ := hs.pend_ok _ pending
  obtain ⟨whole, -⟩ := hs.active_total act
  refine ⟨?_, tailBytes_of_written (by omega)⟩
  obtain ⟨w, wv, completed⟩ := completeFinal_eq n s
  have total : BitVec.ofNat 64 (s.total.toNat + n) = s.total + BitVec.ofNat 64 n := by simp [BitVec.ofNat_add]
  refine ⟨w, wv, s.drawCount + wordsFor n, ?_⟩
  rw [exec_pending pending, completeState, completed, total, finalBlocks_eq small whole]
  rfl

/-! ## What FINAL N does not read (R175) -/

theorem blockWord_storeBlk_same (j : Fin 16) (v : Word) (s : State) : blockWord (storeBlk j v s) j = v := by
  simp [blockWord]

theorem blockWord_storeBlk_of_ne {j k : Fin 16} (ne : k ≠ j) (v : Word) (s : State) :
    blockWord (storeBlk j v s) k = blockWord s k := by
  obtain ⟨word, mark⟩ := storeBlk_blk_of_ne ne v s
  rw [blockWord, blockWord, word, mark, storeBlk_drawCount]

/-- Storing a word that agrees with the word read in every byte below `n` leaves the tail as it is. -/
theorem tailBytes_storeBlk {n : Nat} {j : Fin 16} {v : Word} {s : State} (small : n ≤ 64)
    (agree : ∀ k, 4 * j.val + k < n → k < 4 → (be32bytes v).getD k 0 = (be32bytes (blockWord s j)).getD k 0) :
    tailBytes n (storeBlk j v s) = tailBytes n s := by
  refine tailBytes_eq small (tailBytes_length_of_le s small) fun l k hk inside => ?_
  rw [tailBytes_getElem? s l hk inside]
  by_cases same : l = j
  · subst same
    rw [blockWord_storeBlk_same, agree k inside hk]
  · rw [blockWord_storeBlk_of_ne same]

/-- The engine's datapath and a store into BLK do not meet (R38). -/
theorem engineCompress_storeBlk (j : Fin 16) (v : Word) (s : State) (B : List Byte) :
    engineCompress (storeBlk j v s) B = storeBlk j v (engineCompress s B) := by
  apply State.ext <;> simp

theorem foldl_engineCompress_storeBlk (j : Fin 16) (v : Word) (Bs : List (List Byte)) (s : State) :
    Bs.foldl engineCompress (storeBlk j v s) = storeBlk j v (Bs.foldl engineCompress s) := by
  induction Bs generalizing s with
  | nil => rfl
  | cons B Bs ih => rw [List.foldl_cons, engineCompress_storeBlk, ih, List.foldl_cons]

/-- FINAL N reads nothing of BLK but its tail. -/
theorem completeFinal_storeBlk {n : Nat} {j : Fin 16} {v : Word} {s : State}
    (tail : tailBytes n (storeBlk j v s) = tailBytes n s) :
    completeFinal n (storeBlk j v s) = storeBlk j v (completeFinal n s) := by
  have blocks : finalBlocks n (storeBlk j v s) = finalBlocks n s := by
    simp only [finalBlocks, tail, storeBlk_total]
  have draws : useDraws (wordsFor n) (storeBlk j v s) = storeBlk j v (useDraws (wordsFor n) s) := rfl
  rw [completeFinal, blocks, draws, foldl_engineCompress_storeBlk]
  rfl

/-- Settles O35: a word below byte N is read as it stands, so the tail is the same with the word stored. -/
theorem finalIgnoresBytesPastTail : Obligations.FinalIgnoresBytesPastTail := by
  unfold Obligations.FinalIgnoresBytesPastTail
  intro s t n j v small pending agree run
  have tail : tailBytes n (storeBlk j v s) = tailBytes n s := by
    refine tailBytes_storeBlk (by omega) fun k inside hk => ?_
    obtain ⟨written, bytes⟩ := agree (by omega)
    rw [blockWord_written s j written, bytes k inside hk]
  rw [exec_pending pending] at run
  cases run
  rw [exec_pending (s := storeBlk j v s) pending, completeState, completeFinal_storeBlk tail]
  rfl

end Sys2Proof.Machine
end

section
/-! SUPPORT. The host's procedure for one message (R185, R186): what LOADBLK and LOADTAIL leave in BLK, each command
with its completion, and the digest at the end. -/

namespace Sys2Proof.Machine

/-! ## LOADBLK and LOADTAIL (R80, R177) -/

/-- `t` is `s` with the first `k` words of `bs` written into BLK. -/
structure Loaded (bs : List Byte) (k : Nat) (s t : State) : Prop where
  frame : t = { s with blk := t.blk, blkw := t.blkw }
  words : ∀ j : Fin 16, j.val < k → t.blkw[j] = true ∧ t.blk[j] = packWord bs j.val

/-- Storing the next word of `bs` loads one word more. -/
theorem Loaded.store_next {bs : List Byte} {k : Nat} {s t : State} (h : Loaded bs k s t) {j : Fin 16}
    (next : j.val = k) : Loaded bs (k + 1) s (storeBlk j (packWord bs k) t) where
  frame := by rw [h.frame]; rfl
  words l lt := by
    by_cases same : l = j
    · subst same
      simp [next]
    · have ne : l.val ≠ k := fun e => same (Fin.ext (e.trans next.symm))
      obtain ⟨word, mark⟩ := storeBlk_blk_of_ne same (packWord bs k) t
      rw [word, mark]
      exact h.words l (by omega)

/-- While BUSY = 0 the writes are all stored. -/
theorem loadWords_loaded (bs : List Byte) {k : Nat} {s : State} (fits : k ≤ 16) (up : s.rst = false)
    (free : s.busy = false) : ∃ t, loadWords bs k s = .next t ∧ Loaded bs k s t := by
  induction k with
  | zero => exact ⟨s, rfl, rfl, nofun⟩
  | succ k ih =>
    obtain ⟨t, run, loaded⟩ := ih (by omega)
    have up' : t.rst = false := by rw [loaded.frame]; exact up
    have free' : t.busy = false := by rw [loaded.frame]; exact free
    refine ⟨_, ?_, loaded.store_next (j := Fin.ofNat 16 k) (Nat.mod_eq_of_lt (by omega))⟩
    rw [loadWords, run, andThen_next, busWrite_blk_stored _ _ up' free']

/-- Byte k of a packed word is byte 4j + k of the sequence it is packed from. -/
theorem packWord_byte (bs : List Byte) (j : Nat) {k : Nat} (hk : k < 4) :
    (be32bytes (packWord bs j)).getD k 0 = bs.getD (4 * j + k) 0 := by
  rw [packWord, be32bytes_of_be32]
  interval_cases k <;> rfl

/-- The engine finds in BLK the bytes that were loaded (R59). -/
theorem Loaded.tailBytes_eq_bytes {bs : List Byte} {s t : State} (h : Loaded bs ((bs.length + 3) / 4) s t)
    (small : bs.length ≤ 64) : tailBytes bs.length t = bs := by
  refine tailBytes_eq small rfl fun j k hk inside => ?_
  obtain ⟨written, word⟩ := h.words j (by omega)
  rw [blockWord_written t j written, word, packWord_byte bs j.val hk]
  simp [inside]

theorem Loaded.blockBytes_eq_bytes {bs : List Byte} {s t : State} (h : Loaded bs 16 s t) (len : bs.length = 64) :
    blockBytes t = bs := by
  have words : (bs.length + 3) / 4 = 16 := by omega
  rw [blockBytes_eq_tailBytes, ← len]
  exact Loaded.tailBytes_eq_bytes (words ▸ h) len.le

/-! ## A command and its completion (R170 to R172) -/

/-- The computation is open with nothing pending and no error; `L` bytes are absorbed and H holds `H`. -/
structure Absorbed (L : Nat) (H : Vector Word 8) (s : State) : Prop where
  up : s.rst = false
  idle : s.pend = none
  free : s.busy = false
  act : s.active = true
  ok : s.err = false ∧ s.errcode = 0
  total : s.total.toNat = L
  acc : s.h = H

/-- Loading BLK touches nothing that has been absorbed. -/
theorem Absorbed.of_loaded {L k : Nat} {H : Vector Word 8} {bs : List Byte} {s t : State} (h : Absorbed L H s)
    (loaded : Loaded bs k s t) : Absorbed L H t := by
  rw [loaded.frame]
  exact ⟨h.up, h.idle, h.free, h.act, h.ok, h.total, h.acc⟩

/-- An accepted command is completed by the move that the host waits for. -/
theorem runCommand_of_accepted {i : Instr} {s u : State} (wf : i.wf = true) (up : s.rst = false)
    (free : s.busy = false) (accepted : exec i s = .next u) (pending : u.pend = some i) (up' : u.rst = false) :
    runCommand i s = .next (finish (completeState i u)) := by
  rw [runCommand, busWrite_cmd_decoded up free (decodeOfEncode i wf), accepted, andThen_next,
    engineMove_pending up' pending, exec_pending pending]

/-- INIT opens a computation with nothing absorbed (R173). -/
theorem runCommand_init {s : State} (up : s.rst = false) (idle : s.pend = none) (free : s.busy = false) :
    ∃ t, runCommand .init s = .next t ∧ Absorbed 0 H0 t :=
  ⟨_, runCommand_of_accepted rfl up free (exec_init_of_idle idle free) rfl up, up, rfl, rfl, rfl, ⟨rfl, rfl⟩, rfl, rfl⟩

/-- BLOCK absorbs the 64 bytes of BLK (R174). -/
theorem runCommand_block {L : Nat} {H : Vector Word 8} {s : State} (h : Absorbed L H s) (room : L + 64 ≤ maxMsgBytes) :
    ∃ t, runCommand .block s = .next t ∧ Absorbed (L + 64) (compressBlock H (blockBytes s)) t := by
  have accepted : exec .block s = .next (latch .block s) := by
    rw [exec_block_of_idle h.idle h.free, checkedLatch_of_room h.act (h.total ▸ room)]
  obtain ⟨w, wv, completed⟩ := completeBlock_eq (latch .block s)
  refine ⟨_, runCommand_of_accepted rfl h.up h.free accepted rfl h.up, ?_⟩
  rw [completeState, completed, ← h.acc]
  refine ⟨h.up, rfl, rfl, h.act, h.ok, ?_, rfl⟩
  simp only [finish_total, latch_total, h.total, BitVec.toNat_ofNat]
  unfold maxMsgBytes at room
  omega

/-- The full blocks of the message, each loaded and absorbed in order (R185). -/
theorem absorbBlocks_absorbed {Bs : List (List Byte)} {L : Nat} {H : Vector Word 8} {s : State}
    (full : ∀ B ∈ Bs, B.length = 64) (h : Absorbed L H s) (room : L + 64 * Bs.length ≤ maxMsgBytes) :
    ∃ t, absorbBlocks Bs s = .next t ∧ Absorbed (L + 64 * Bs.length) (Bs.foldl compressBlock H) t := by
  induction Bs generalizing L H s with
  | nil => exact ⟨s, rfl, h⟩
  | cons B Bs ih =>
    obtain ⟨first, rest⟩ := List.forall_mem_cons.1 full
    rw [List.length_cons] at room ⊢
    obtain ⟨u, load, loaded⟩ := loadWords_loaded B le_rfl h.up h.free
    obtain ⟨v, run, absorbed⟩ := runCommand_block (h.of_loaded loaded) (by omega)
    rw [loaded.blockBytes_eq_bytes first] at absorbed
    obtain ⟨t, runRest, absorbedRest⟩ := ih rest absorbed (by omega)
    refine ⟨t, ?_, ?_⟩
    · rw [absorbBlocks, load, andThen_next, run, andThen_next, runRest]
    · rwa [List.foldl_cons, show L + 64 * (Bs.length + 1) = L + 64 + 64 * Bs.length by omega]

/-- STATUS with a digest published and no error is DONE alone (R181). -/
theorem statusWord_of_done {s : State} (free : s.busy = false) (closed : s.active = false) (done : s.done = true)
    (noErr : s.err = false) (noCode : s.errcode = 0) : statusWord s = 0x00000004 := by
  rw [statusWord, free, closed, done, noErr, noCode]
  decide

/-- FINAL N absorbs the padded tail and publishes the digest (R175). -/
theorem runCommand_final {L n : Nat} {H : Vector Word 8} {s : State} (h : Absorbed L H s) (small : n ≤ 63)
    (room : L + n ≤ maxMsgBytes) :
    ∃ t, runCommand (.final n) s = .next t ∧ t.h = (finalBlocks n s).foldl compressBlock H ∧ t.hex = hexWords t.h ∧
      t.total.toNat = L + n ∧ statusWord t = 0x00000004 := by
  have accepted : exec (.final n) s = .next (latch (.final n) s) := by
    rw [exec_final_of_idle n h.idle h.free, checkedLatch_of_room h.act (h.total ▸ room)]
  obtain ⟨w, wv, completed⟩ := completeFinal_eq n (latch (.final n) s)
  refine ⟨_, runCommand_of_accepted (decide_eq_true small) h.up h.free accepted rfl h.up, ?_⟩
  obtain ⟨noErr, noCode⟩ := h.ok
  rw [completeState, completed, ← h.acc]
  refine ⟨rfl, rfl, ?_, ?_⟩
  · simp only [finish_total, latch_total, h.total, BitVec.toNat_ofNat]
    unfold maxMsgBytes at room
    omega
  · exact statusWord_of_done rfl rfl rfl noErr noCode

/-! ## The digest (R186) -/

/-- The digest of a message is that of its `q` full blocks, gone on with over the padded tail (R106, R145). -/
theorem compress_pad_eq {m : List Byte} {q : Nat} (long : 64 * q ≤ m.length) :
    compress (pad m) =
      (blocksOf ((padTail (m.drop (64 * q)) m.length).length / 64) (padTail (m.drop (64 * q)) m.length)).foldl
        compressBlock ((blocksOf q m).foldl compressBlock H0) := by
  have len : (m.take (64 * q)).length = 64 * q := List.length_take_of_le long
  have front : compress (m.take (64 * q)) = (blocksOf q m).foldl compressBlock H0 := by
    rw [compress, len, Nat.mul_div_cancel_left q (by decide), ← blocksOf_append q _ (m.drop (64 * q)) len.ge,
      List.take_append_drop]
  rw [pad_eq_take_append m (64 * q), compressionContinues.2 _ _ (by omega), front]

/-- Settles O36: INIT opens the computation, the full blocks and the tail are absorbed from BLK, and the blocks FINAL
makes are the end of the padded message. -/
theorem procedureEqualsOneCallHash : Obligations.ProcedureEqualsOneCallHash := by
  unfold Obligations.ProcedureEqualsOneCallHash
  intro m s domain idle free up
  obtain ⟨q, count⟩ : ∃ q, m.length / 64 = q := ⟨_, rfl⟩
  obtain ⟨tail, rest⟩ : ∃ tail, m.drop (64 * q) = tail := ⟨_, rfl⟩
  have tailLen : tail.length = m.length - 64 * q := by rw [← rest, List.length_drop]
  have long : 64 * q ≤ m.length := by omega
  have parts : 64 * q + tail.length = m.length := by omega
  obtain ⟨s1, runInit, opened⟩ := runCommand_init up idle free
  obtain ⟨s2, runBlocks, absorbed⟩ :=
    absorbBlocks_absorbed (fun _ => length_of_mem_blocksOf long) opened (by rw [blocksOf_length]; omega)
  rw [blocksOf_length, Nat.zero_add] at absorbed
  obtain ⟨s3, runLoad, loaded⟩ :=
    loadWords_loaded tail (k := (tail.length + 3) / 4) (by omega) absorbed.up absorbed.free
  replace absorbed := absorbed.of_loaded loaded
  obtain ⟨t, runFinal, acc, hex, total, status⟩ := runCommand_final absorbed (n := tail.length) (by omega) (by omega)
  have digest : t.h = compress (pad m) := by
    rw [acc, compress_pad_eq long, rest]
    simp only [finalBlocks, loaded.tailBytes_eq_bytes (by omega), absorbed.total, parts]
  refine ⟨t, ?_, digest, ?_, total.trans parts, status⟩
  · simp only [hashMessage, count, rest, runInit, runBlocks, runLoad, andThen_next, runFinal]
  · rw [hex, hexChars_hexWords, digest, sha256Hex]

end Sys2Proof.Machine
end

section
/-! SUPPORT. Errors (60_exceptions.md): what a rejected transaction leaves unchanged, what sets and clears ERR, and what
stops the machine. -/

namespace Sys2Proof.Machine

/-! ## Rejected transactions (R208, R210) -/

/-- `t` is `s` but for ERR and ERRCODE, and `s` itself if ERR was 1 already: what R208 allows a rejected transaction. -/
def OnlyErrorRecorded (s t : State) : Prop :=
  t = { s with err := t.err, errcode := t.errcode } ∧ (s.err = true → t = s)

theorem onlyErrorRecorded_refl (s : State) : OnlyErrorRecorded s s := ⟨rfl, fun _ => rfl⟩

theorem raiseErr_onlyErrorRecorded (k : ErrKind) (s : State) : OnlyErrorRecorded s (raiseErr k s) := by
  refine ⟨?_, raiseErr_of_err k s⟩
  apply State.ext <;> simp

/-- A submission that leaves an empty latch empty was rejected (R171). -/
theorem Submitted.onlyErrorRecorded {i : Instr} {s t : State} (h : Submitted i s t) (idle : s.pend = none)
    (kept : t.pend = s.pend) : OnlyErrorRecorded s t := by
  cases h with
  | rejected k h => exact h ▸ raiseErr_onlyErrorRecorded k s
  | started h _ _ => simp [h, idle] at kept
  | latched h _ _ _ _ => simp [h, idle] at kept

/-- A CMD write after which PEND is as before (R208). -/
theorem busWrite_cmd_onlyErrorRecorded {w : Word} {s t : State} (hs : s.Inv) (h : busWrite .cmd w s = .next t)
    (kept : t.pend = s.pend) : OnlyErrorRecorded s t := by
  have hw := wrote .cmd w s
  generalize busWrite .cmd w s = o at h hw
  cases hw with
  | nothing _ => cases h; exact onlyErrorRecorded_refl s
  | raised k _ _ => cases h; exact raiseErr_onlyErrorRecorded k s
  | stored _ target _ _ => cases target
  | ran i _ _ free _ =>
    rw [exec_eq] at h
    cases h
    exact (submitted_of_idle hs free i).onlyErrorRecorded (hs.pend_eq_none free) kept

/-- A BLK write in the BUSY window (R204, R208); while `rst` is asserted it is ignored (R230). -/
theorem busWrite_blk_onlyErrorRecorded {j : Fin 16} {v : Word} {s t : State} (busy : s.busy = true)
    (h : busWrite (.blk j) v s = .next t) : OnlyErrorRecorded s t := by
  have hw := wrote (.blk j) v s
  generalize busWrite (.blk j) v s = o at h hw
  cases hw with
  | nothing _ => cases h; exact onlyErrorRecorded_refl s
  | raised k _ _ => cases h; exact raiseErr_onlyErrorRecorded k s
  | stored _ _ _ free => simp [busy] at free
  | ran _ target _ _ _ => cases target

/-- Settles O29. -/
theorem rejectedTransactionsChangeOnlyError : Obligations.RejectedTransactionsChangeOnlyError := by
  unfold Obligations.RejectedTransactionsChangeOnlyError
  exact fun s hs =>
    ⟨fun _ _ h kept => busWrite_cmd_onlyErrorRecorded hs h kept,
      fun _ _ _ busy h => busWrite_blk_onlyErrorRecorded busy h⟩

/-! ## What changes ERR and ERRCODE (R201, R209) -/

/-- A completion keeps the error (R172, R200). -/
theorem execState_error_of_pending {i : Instr} {s : State} (pending : s.pend = some i) :
    (execState i s).err = s.err ∧ (execState i s).errcode = s.errcode := by
  obtain ⟨-, -, err, code⟩ := completeState_frame i s
  rw [execState_pending pending]
  exact ⟨err, code⟩

/-- What running a command does to the error: nothing, record one, or, where INIT is accepted, clear it. -/
theorem execState_error (i : Instr) (s : State) :
    ((execState i s).err = s.err ∧ (execState i s).errcode = s.errcode) ∨
    (∃ k, execState i s = raiseErr k s) ∨
    (i = .init ∧ (execState i s).err = false) := by
  by_cases pending : s.pend = some i
  · exact .inl (execState_error_of_pending pending)
  · cases submitted i s pending with
    | rejected k h => exact .inr (.inl ⟨k, h⟩)
    | started h _ hi => exact .inr (.inr ⟨hi, by simp [h]⟩)
    | latched h _ _ _ _ => exact .inl ⟨by simp [h], by simp [h]⟩

/-- What a step does to the error: it keeps it, or, on the host's turn, records one and does nothing else, or clears it,
by reset or by a CMD write of INIT while BUSY = 0. -/
inductive ErrorStepped (s t : State) : Prop where
  | kept (err : t.err = s.err) (code : t.errcode = s.errcode)
  | recorded (k : ErrKind) (m : moveOf s = .host) (h : t = raiseErr k (nextStmt (popMove s)))
  | cleared (err : t.err = false)
      (cause : moveOf s = .rst true ∨ (moveOf s = .host ∧ s.busy = false ∧ s.rst = false ∧
        ∃ a w, s.prog[s.hpc]? = some (.wr a w) ∧ a.off = 0x000 ∧ decode w = .ok .init))

/-- Of the moves a step can make only commands, dropped transactions and reset touch the error. -/
theorem Stepped.error {s t : State} (h : Stepped s t) : ErrorStepped s t := by
  cases h with
  | coreKept _ _ _ h => exact .kept (by simp [h]) (by simp [h])
  | reset m h => exact .cleared (by rw [h]; rfl) (.inl m)
  | released _ h => exact .kept (by simp [h]) (by simp [h])
  | raised k m _ h => exact .recorded k m h
  | stored _ _ _ _ _ _ _ _ h => exact .kept (by simp [h]) (by simp [h])
  | ran i a w m up free st off dec h =>
    obtain ⟨err, code⟩ | ⟨k, hk⟩ | ⟨rfl, err⟩ := execState_error i (nextStmt (popMove s))
    · exact .kept (h ▸ err) (h ▸ code)
    · exact .recorded k m (h.trans hk)
    · exact .cleared (h ▸ err) (.inr ⟨m, free, up, a, w, st, off, dec⟩)
  | completed i _ _ pending h =>
    obtain ⟨err, code⟩ := execState_error_of_pending (s := popMove s) pending
    exact .kept (h ▸ err) (h ▸ code)

/-- Settles O30: ERR = 1 after a step that kept the error was there before it, and a step that records an error where
ERR was 1 keeps the code. -/
theorem firstErrorWins : Obligations.FirstErrorWins := by
  unfold Obligations.FirstErrorWins
  refine ⟨fun k s => ⟨raiseErr_of_not_err k s, raiseErr_of_err k s⟩, fun s t h set => ?_, rfl, rfl, rfl, rfl⟩
  cases (stepped h).error with
  | kept err code => exact .inl ⟨err ▸ set, code⟩
  | recorded k m h =>
    obtain before | before := Bool.eq_false_or_eq_true s.err
    · exact .inl ⟨before, by simp [h, before]⟩
    · exact .inr ⟨before, m, k, h⟩
  | cleared err _ => simp [err] at set

/-- Settles O55: an error recorded where ERR is 1 already changes nothing (R201). -/
theorem errorClearedOnlyByInitOrReset : Obligations.ErrorClearedOnlyByInitOrReset := by
  unfold Obligations.ErrorClearedOnlyByInitOrReset
  intro s t h set
  cases (stepped h).error with
  | kept err code => exact .inl ⟨err.trans set, code⟩
  | recorded k _ h => exact .inl (by simp [h, set])
  | cleared _ cause => exact .inr cause

/-! ## What stops the machine (R53, R210) -/

theorem engineMove_next (s : State) : ∃ t, engineMove s = .next t := by
  obtain ⟨h, -⟩ | ⟨i, -, -, h⟩ := engineMove_cases s
  · exact ⟨s, h⟩
  · exact ⟨execState i s, h.trans (exec_eq i s)⟩

/-- The host's move goes on, or its statement is an access that is refused (R53, R79). -/
theorem hostMove_next_or_refused (s : State) :
    (∃ t, hostMove s = .next t) ∨ ∃ a r, hostMove s = .refused r ∧
      ((∃ v, s.prog[s.hpc]? = some (.wr a v)) ∨ ∃ k, s.prog[s.hpc]? = some (.rd k a)) := by
  have h := hostMoved s
  generalize hostMove s = o at h
  cases h with
  | idle => exact .inl ⟨_, rfl⟩
  | refused a r _ st => exact .inr ⟨a, r, rfl, st⟩
  | wrote a v _ _ => exact .inl (busWrite_next _ v _)
  | read _ _ _ _ => exact .inl ⟨_, rfl⟩
  | branched _ _ _ _ => exact .inl ⟨_, rfl⟩

/-- Settles O54: the engine's turn and a change of `rst` go on, and so does the host's, but for a refused access. -/
theorem onlyRefusedAccessesStop : Obligations.OnlyRefusedAccessesStop := by
  unfold Obligations.OnlyRefusedAccessesStop
  intro s
  cases m : moveOf s with
  | host =>
    have turn : step s = hostMove (popMove s) := by rw [step, m]; rfl
    obtain ⟨t, h⟩ | ⟨a, r, h, place⟩ := hostMove_next_or_refused (popMove s)
    · exact .inl ⟨t, turn.trans h⟩
    · have refused : ∃ r, step s = .refused r := ⟨r, turn.trans h⟩
      exact .inr ⟨rfl, a, (accessesOutsideInterfaceRefused s a m place).1 refused, refused, place⟩
  | engine =>
    rw [step, m]
    exact .inl (engineMove_next (popMove s))
  | rst level =>
    rw [step, m]
    exact .inl ⟨setRst level (popMove s), rfl⟩

end Sys2Proof.Machine
end

section
/-! SUPPORT. Reset (70_reset_and_hazards.md): the reset event, the held level and its release, the machine at reset. -/

namespace Sys2Proof.Machine

/-! ## A step that changes `rst`, and the agents' turns while it is asserted (R230) -/

/-- A step that changes the level of `rst` does nothing else than take the entry of the schedule (R230). -/
theorem step_rst {s : State} {level : Bool} (m : moveOf s = .rst level) : step s = .next (setRst level (popMove s)) := by
  rw [step, m, runMove]

/-- The engine does not move while `rst` is asserted (R230). -/
theorem engineMove_of_rst {s : State} (held : s.rst = true) : engineMove s = .next s := if_pos held

theorem step_engine_of_rst {s : State} (m : moveOf s = .engine) (held : s.rst = true) :
    step s = .next (popMove s) := by
  rw [step, m, runMove]
  exact engineMove_of_rst (s := popMove s) held

/-- While `rst` is asserted a step on the host's turn keeps the core: of the moves a step can make, those that touch
the core need `rst` released or are not the host's (R230). -/
theorem Stepped.coreKept_of_rst {s t : State} (h : Stepped s t) (held : s.rst = true) (m : moveOf s = .host) :
    ∃ hpc vars d, t = { s with schedule := s.schedule.tail, hpc := hpc, vars := vars, drawCount := d } := by
  cases h with
  | coreKept hpc vars d h => exact ⟨hpc, vars, d, h⟩
  | reset m' _ => simp [m] at m'
  | released m' _ => simp [m] at m'
  | raised _ _ up _ => simp [held] at up
  | stored _ _ _ _ up _ _ _ _ => simp [held] at up
  | ran _ _ _ _ up _ _ _ _ _ => simp [held] at up
  | completed _ _ up _ _ => simp [held] at up

/-- Settles O50: the step answers the reset state with `rst` asserted, where the engine does not move. -/
theorem resetEventClearsCore : Obligations.ResetEventClearsCore := by
  unfold Obligations.ResetEventClearsCore
  intro s m
  have unmarked : ∀ j : Fin 16, (setRst true (popMove s)).blkw[j] = false := fun j => by simp [State.reset]
  have still : ∀ u, engineMove (setRst true (popMove s)) = .next u → u = setRst true (popMove s) := by
    intro u h
    rw [engineMove_of_rst (setRst_true_rst _)] at h
    cases h
    rfl
  exact ⟨setRst true (popMove s), step_rst m, rfl, rfl, rfl, rfl, rfl, rfl, rfl, rfl, unmarked, rfl, still, rfl, rfl, rfl,
    rfl⟩

/-- Settles O51, turn by turn. -/
theorem heldResetIgnoresHostAndReleaseKeepsCore : Obligations.HeldResetIgnoresHostAndReleaseKeepsCore := by
  unfold Obligations.HeldResetIgnoresHostAndReleaseKeepsCore
  refine fun s => ⟨fun t held m h => ?_, fun held m => step_engine_of_rst m held, step_rst⟩
  obtain ⟨hpc, vars, d, rfl⟩ := (stepped h).coreKept_of_rst held m
  rfl

/-! ## The machine at reset -/

/-- The turn of a host with no statement at its place takes the entry of the schedule and does nothing else (R184; log
entry 10). -/
theorem step_of_no_stmt {s : State} (m : moveOf s = .host) (place : s.prog[s.hpc]? = none) :
    step s = .next (popMove s) := by
  rw [step, m, runMove, hostMove, popMove_prog, popMove_hpc, place]

/-- Settles O52: with nothing pending and an empty schedule it is the turn of the host, whose program is empty. -/
theorem resetMeetsInvariant : Obligations.ResetMeetsInvariant :=
  ⟨reset_inv, step_of_no_stmt rfl rfl⟩

end Sys2Proof.Machine
end

section
/-! SUPPORT. Every accepted command completes (R240): a bounded run on the schedule. -/

namespace Sys2Proof.Machine

/-- Within `n` steps the run from `s` stops at a refused access or passes a state with PEND empty and BUSY = 0: what
R240 is stated as. -/
def CompletesWithin (n : Nat) (s : State) : Prop :=
  ∃ k, k ≤ n ∧
    ((∃ r, runSteps k s = .refused r) ∨ ∃ t, runSteps k s = .next t ∧ t.pend = none ∧ t.busy = false)

theorem completesWithin_of_idle {s : State} (n : Nat) (idle : s.pend = none) (free : s.busy = false) :
    CompletesWithin n s :=
  ⟨0, Nat.zero_le n, .inr ⟨s, rfl, idle, free⟩⟩

theorem completesWithin_of_refused {s : State} {r : Refusal} (n : Nat) (h : step s = .refused r) :
    CompletesWithin (n + 1) s :=
  ⟨1, by omega, .inl ⟨r, by rw [runSteps, h, andThen]⟩⟩

/-- A step is the first of the run. -/
theorem CompletesWithin.of_step {n : Nat} {s t : State} (h : step s = .next t) (rest : CompletesWithin n t) :
    CompletesWithin (n + 1) s := by
  obtain ⟨k, le, run⟩ := rest
  have first : runSteps (k + 1) s = runSteps k t := by rw [runSteps, h, andThen_next]
  exact ⟨k + 1, by omega, by rwa [first]⟩

/-- On the engine's turn the pending command completes, which leaves PEND empty and BUSY = 0 (R172). -/
theorem completesWithin_of_engine {s : State} {i : Instr} (n : Nat) (m : moveOf s = .engine) (up : s.rst = false)
    (pending : s.pend = some i) : CompletesWithin (n + 1) s :=
  (completesWithin_of_idle n rfl rfl).of_step (step_pending m up pending)

/-- A step on the host's turn in the BUSY window takes the entry of the schedule and leaves the command pending, BUSY and
the level of `rst` alone: a write is dropped there (R204). -/
theorem Stepped.busy_window {s t : State} (h : Stepped s t) (m : moveOf s = .host) (busy : s.busy = true) :
    t.schedule = s.schedule.tail ∧ t.pend = s.pend ∧ t.busy = s.busy ∧ t.rst = s.rst := by
  cases h with
  | coreKept _ _ _ h => subst h; exact ⟨rfl, rfl, rfl, rfl⟩
  | reset m' _ => simp [m] at m'
  | released m' _ => simp [m] at m'
  | raised _ _ _ h => simp [h]
  | stored _ _ _ _ _ free _ _ _ => simp [busy] at free
  | ran _ _ _ _ _ free _ _ _ _ => simp [busy] at free
  | completed _ m' _ _ _ => simp [m] at m'

/-- On a schedule without reset a pending command completes one step after its end at the latest: the engine's first turn
completes it, the host's turns before that leave it pending, and after the last entry it is the engine's turn. -/
theorem completesWithin_schedule {i : Instr} (sch : List Move) (noReset : ∀ l, Move.rst l ∉ sch) (s : State)
    (on : s.schedule = sch) (pending : s.pend = some i) (busy : s.busy = true) (up : s.rst = false) :
    CompletesWithin (sch.length + 1) s := by
  induction sch generalizing s with
  | nil => exact completesWithin_of_engine 0 (by simp [moveOf, on, pending]) up pending
  | cons move rest ih =>
    have m : moveOf s = move := by simp [moveOf, on]
    cases move with
    | engine => exact completesWithin_of_engine _ m up pending
    | rst level => exact absurd List.mem_cons_self (noReset level)
    | host =>
      obtain ⟨t, h⟩ | ⟨-, -, -, ⟨r, refused⟩, -⟩ := onlyRefusedAccessesStop s
      · obtain ⟨sch', pend', busy', rst'⟩ := (stepped h).busy_window m busy
        have fromT := ih (fun l mem => noReset l (List.mem_cons_of_mem _ mem)) t (by rw [sch', on, List.tail_cons])
          (pend'.trans pending) (busy'.trans busy) (rst'.trans up)
        exact fromT.of_step h
      · exact completesWithin_of_refused _ refused

/-- Settles O59: in the invariant BUSY = 1 while a command is pending. -/
theorem pendingCommandCompletes : Obligations.PendingCommandCompletes := by
  unfold Obligations.PendingCommandCompletes
  intro s hs up noReset pending
  obtain ⟨i, pending⟩ := Option.ne_none_iff_exists'.1 pending
  exact completesWithin_schedule s.schedule noReset s rfl pending (by rw [hs.busy_pend, pending]; rfl) up

end Sys2Proof.Machine
end
